-- ==== Sys2Proof/Word.lean ====
section
/-! DEFINITION. The plain words of the 2640: bytes, wrapping counts and serials, station numbers, conversion results,
and `Table`, a fixed number of like things (four points, eight slots, sixteen mirror places). -/

namespace Sys2Proof

/-- A byte of a frame or of the configuration image. -/
abbrev Byte := BitVec 8

/-- An axle count nAB or nBA: 16 bits that wrap (00, section 5.3). -/
abbrev Count := BitVec 16

/-- A disturbance serial, a round tag or a command serial: 0 to 255, wrapping (00, section 5.3). -/
abbrev Serial := BitVec 8

/-- A station number as the five straps and the five low bits of an arbitration byte carry it (R61, R175).
0 is not a station. -/
abbrev Station := BitVec 5

/-- A conversion result, 0 to 1023 (R2). -/
abbrev Sample := Fin 1024

/-- A local or remote point index, 0 to 3. -/
abbrev PointIndex := Fin 4

/-- A section slot, 0 to 7. -/
abbrev Slot := Fin 8

/-- A place of the mirror table, 0 to 15. -/
abbrev EntryIndex := Fin 16

/-- `n` like things, numbered 0 to `n - 1`. -/
structure Table (α : Type) (n : Nat) where
  cells : List α
  size : cells.length = n
  deriving DecidableEq, Repr

/-- The thing numbered `i`. -/
def Table.get {α : Type} {n : Nat} (t : Table α n) (i : Fin n) : α :=
  t.cells[i.val]'(by rw [t.size]; exact i.isLt)

/-- The table whose thing numbered `i` is `f i`. -/
def Table.tabulate {α : Type} {n : Nat} (f : Fin n → α) : Table α n :=
  ⟨List.ofFn f, List.length_ofFn⟩

/-- The table with the thing numbered `i` replaced. -/
def Table.set {α : Type} {n : Nat} (t : Table α n) (i : Fin n) (v : α) : Table α n :=
  Table.tabulate fun j => if j = i then v else t.get j

/-- `n` copies of one thing. -/
def Table.const {α : Type} (n : Nat) (v : α) : Table α n :=
  Table.tabulate fun _ => v

/-- The table with `f` applied to every thing. -/
def Table.map {α β : Type} {n : Nat} (f : α → β) (t : Table α n) : Table β n :=
  Table.tabulate fun i => f (t.get i)

end Sys2Proof
end

