-- ==== Sys2Proof/Syntax.lean ====
section
/-! DEFINITION. The commands: one constructor of `Instr` for each row of spec/opcode_table.json. The table gives no
operands and no bits; an operand here is what the rules say reaches the part from outside at that event (log 6). -/

namespace Sys2Proof

/-- The level of the field line as the part reads it in one sample (R56). -/
inductive LineLevel where
  | dominant
  | recessive
  deriving DecidableEq, Repr

/-- Samples 6 to 10 of one bit time. The value of a bit is the majority of its samples 7, 8 and 9 (R58), and each of
those counts as dominant only beside a second consecutive dominant sample (R57), so 6 and 10 matter too. The receiver and
the read-back of the part's own sending judge a bit alike. -/
structure BitSamples where
  s6 : LineLevel
  s7 : LineLevel
  s8 : LineLevel
  s9 : LineLevel
  s10 : LineLevel
  deriving DecidableEq, Repr

/-- A bit time in which nothing drives the line dominant. -/
def BitSamples.atRest : BitSamples := ⟨.recessive, .recessive, .recessive, .recessive, .recessive⟩

/-- The two channels of a detection point. -/
inductive ChannelName where
  | a
  | b
  deriving DecidableEq, Repr

/-- The nine conversion results of one sweep, in the order of conversion (R1). -/
structure Results where
  a0 : Sample
  b0 : Sample
  a1 : Sample
  b1 : Sample
  a2 : Sample
  b2 : Sample
  a3 : Sample
  b3 : Sample
  reference : Sample
  deriving DecidableEq, Repr

/-- The bit of a character at which a framing error is found (R82). -/
inductive FramedBit where
  | start
  | stop
  deriving DecidableEq, Repr

/-- The commands, in the order of spec/opcode_table.json. A read-back operand that a term leaves out stands for a line at
rest (no bits for ARBITRATION_WON); a sender always gives it (log 6). -/
inductive Instr where
  /-- RESET_ASSERTION (R183): RESET_IN has read low for this many consecutive CLK_IN cycles. -/
  | resetAssertion (lowCycles : Nat)
  /-- RESET_RELEASE (R179): the levels of STN4 … STN0 at the release (R175). -/
  | resetRelease (straps : Station)
  /-- CONFIGURATION_READ_COMPLETE (R178): the 2048 levels taken from the data line, in the order taken (R176). `true` is
  high, a 1. -/
  | configurationReadComplete (levels : List Bool)
  /-- LOADING_TIMER_EXPIRY (R179). -/
  | loadingTimerExpiry
  /-- LISTENING_TIMER_EXPIRY (R181). -/
  | listeningTimerExpiry
  /-- SWEEP_COMPLETION (R1): the nine results that act together. -/
  | sweepCompletion (results : Results)
  /-- FILTERED_LEVEL_CHANGE (R4): the sweep completion at which this channel's filtered level changes. -/
  | filteredLevelChange (results : Results) (point : PointIndex) (channel : ChannelName)
  /-- CHANNEL_FAULTED (R7): the sweep completion at which this channel becomes FAULTED. -/
  | channelFaulted (results : Results) (point : PointIndex) (channel : ChannelName)
  /-- CHANNEL_RECOVERED (R8): the sweep completion at which this channel returns to OK. -/
  | channelRecovered (results : Results) (point : PointIndex) (channel : ChannelName)
  /-- REFERENCE_FAULTED (R10): the sweep completion at which the reference becomes FAULTED. -/
  | referenceFaulted (results : Results)
  /-- REFERENCE_RECOVERED (R11): the sweep completion at which the reference returns to OK. -/
  | referenceRecovered (results : Results)
  /-- DWELL_END (R25): the sweep completion at which this point's dwell counter reaches the dwell length. -/
  | dwellEnd (results : Results) (point : PointIndex)
  /-- TOGGLE_HALF_PERIOD (R167): the sweep completion at which this slot's toggle phase reaches 25 or 50. -/
  | toggleHalfPeriod (results : Results) (slot : Slot)
  /-- REPORT_TIMER_EXPIRY (R42). -/
  | reportTimerExpiry (point : PointIndex)
  /-- STATUS_TIMER_EXPIRY (R170). -/
  | statusTimerExpiry (slot : Slot)
  /-- AGE_TIMER_EXPIRY (R99). -/
  | ageTimerExpiry (entry : EntryIndex)
  /-- DEADLINE_EXPIRY (R143). -/
  | deadlineExpiry (slot : Slot)
  /-- HOLD_OFF_EXPIRY (R124). -/
  | holdOffExpiry (slot : Slot)
  /-- NEXT_LAYER_LOAD (R68). -/
  | nextLayerLoad
  /-- LIVE_LAYER_MOVE (R69). -/
  | liveLayerMove
  /-- IDLE_COMPLETION (R73): the line has been recessive for 12 bit times, or for one more after that (R60). -/
  | idleCompletion
  /-- ARBITRATION_WON (R74): the start bit and the eight data bits of the arbitration byte as read back (R58). -/
  | arbitrationWon (bits : List BitSamples := [])
  /-- LOST_ARBITRATION (R74): this data bit of the arbitration byte (7 is sent first), as read back (R58). -/
  | lostArbitration (bit : Fin 8) (samples : BitSamples := .atRest)
  /-- BIT_ERROR (R76): the bit at this position of the frame, counted from its first start bit, as read back (R58). -/
  | bitError (position : Nat) (samples : BitSamples := .atRest)
  /-- MUTE (R77): the bit error that brings the failure count to 16. -/
  | mute (position : Nat) (samples : BitSamples := .atRest)
  /-- FRAME_COMPLETION (R75): the last stop bit as read back (R58). -/
  | frameCompletion (samples : BitSamples := .atRest)
  /-- FRAMING_ERROR (R82): the start or stop bit of a character of the frame being assembled, as sampled. -/
  | framingError (bit : FramedBit) (samples : BitSamples)
  /-- BAD_LENGTH (R83): the character whose byte is a bad length byte, its data bits as sampled, first received first. -/
  | badLength (data : List BitSamples)
  /-- RECEIVER_FRAME_COMPLETE (R84): the last character of the frame being assembled. -/
  | receiverFrameComplete (data : List BitSamples)
  /-- COUNT_REPORT (R94): the handling of a COUNT REPORT ends. -/
  | countReport
  /-- SETTLE_ANSWER (R92): the handling of a SETTLE ANSWER ends. -/
  | settleAnswer
  /-- SETTLE_REQUEST (R91): the handling of a SETTLE REQUEST ends. -/
  | settleRequest
  /-- SECTION_STATUS (R90): the handling of a SECTION STATUS ends. -/
  | sectionStatus
  /-- RESTORE_COMMAND (R152): the handling of a RESTORE COMMAND ends. -/
  | restoreCommand
  /-- START_BIT (R81): a dominant level of this many consecutive samples begins a bit time, sampled so. -/
  | startBit (dominantSamples : Nat) (samples : BitSamples)
  /-- CHARACTER_COMPLETE (R82): the eight data bits of a correctly framed character, first received first. -/
  | characterComplete (data : List BitSamples)
  /-- CLASS_7_FRAME_HANDLED (R89): the handling of a frame of class 7 ends. -/
  | class7FrameHandled
  deriving DecidableEq, Repr

end Sys2Proof
end

