-- ==== Sys2Proof/Config.lean ====
section
/-! DEFINITION. The fixed quantities of the part (00, section 7), and the free values: what the spec leaves open. -/

namespace Sys2Proof.Config

/-- LOADING lasts 4 ms (R179). Every duration of a timer is in microseconds, which are also bit times. -/
def loadingTime : Nat := 4000

/-- The configuration read takes 16 + 2048 clock periods of one microsecond (R176). -/
def readPeriods : Nat := 2064

/-- LISTENING lasts 1200 ms (R180). -/
def listeningTime : Nat := 1200000

/-- The report period of a local point, 100 ms (R42). -/
def reportTime : Nat := 100000

/-- The section status period, 500 ms (R170). -/
def statusTime : Nat := 500000

/-- The mirror stale limit, 800 ms (R99). -/
def ageTime : Nat := 800000

/-- The settle deadline, 300 ms (R143). -/
def deadlineTime : Nat := 300000

/-- The settle hold-off, 100 ms (R124). -/
def holdOffTime : Nat := 100000

/-- The line is idle after 12 recessive bit times (R60). -/
def idleBits : Nat := 12

/-- The channel valid window, 24 to 1000 inclusive (R7). -/
def windowLow : Nat := 24

/-- See `windowLow`. -/
def windowHigh : Nat := 1000

/-- The reference tolerance, 496 to 528 inclusive (R10). -/
def referenceLow : Nat := 496

/-- See `referenceLow`. -/
def referenceHigh : Nat := 528

/-- Fault persistence: 50 consecutive sweeps (R7, R10). -/
def faultPersistence : Nat := 50

/-- Recovery persistence: 25,000 consecutive sweeps (R8, R11). -/
def recoveryPersistence : Nat := 25000

/-- Where the onset age and the captured lag saturate (R5, R27). -/
def saturated : Nat := 65535

/-- Sweeps of dwell for one unit of the dwell code (R25). -/
def sweepsPerDwellCode : Nat := 5000

/-- The greatest reported speed (R31). -/
def speedLimit : Nat := 999

/-- START-flagged frames of each point after RUNNING (R49). -/
def startFrames : Nat := 50

/-- A count delta above this is a jump (R97). -/
def jumpLimit : Nat := 64

/-- The greatest balance (R112). -/
def balanceLimit : Nat := 1023

/-- The failure count at which the transmitter is muted (R77). -/
def failureLimit : Nat := 16

/-- The capacity for answers (R65, R135). -/
def answerCapacity : Nat := 8

/-- Frames the receive FIFO holds waiting (R87). -/
def fifoCapacity : Nat := 2

/-- Sweeps in one half of the CLEAR toggling (R167). -/
def togglesHigh : Nat := 25

/-- Sweeps in one period of the CLEAR toggling (R167). -/
def togglesPeriod : Nat := 50

/-- FREE VALUE (log 8). A CLEAR line that goes high at a sweep completion, at the `draw`-th use: is the entry taken
before the completion, so that the phase is 1 after it, or after it (R167: either order may be taken)? -/
opaque toggleAfterEntry (draw : Nat) (slot : Fin 8) : Bool

/-- FREE VALUE (log 9). The order in which one section takes the point changes of several of its local points that
fall at one sweep completion (R110). Points it does not list follow in ascending order. -/
opaque pointChangeOrder (draw : Nat) (slot : Fin 8) : List (Fin 4)

end Sys2Proof.Config
end

