-- ==== Sys2Proof/Machine/State.lean ====
section
/-! DEFINITION. The state of the part as plain data: every record, timer, queue, counter, mode and pin the spec names,
its value while RESET_IN is low, and the queue of waiting commands. -/

namespace Sys2Proof.Machine

/-! ## Start-up controller -/

/-- The part mode (10, section 10.3). `heldInReset` is the time while RESET_IN is low. -/
inductive Mode where
  | heldInReset
  | loading
  | listening
  | running
  | halted
  deriving DecidableEq, Repr

/-- The cause with which the part entered HALTED (R182). -/
inductive HaltCause where
  | config
  | clash
  | mute
  deriving DecidableEq, Repr

/-- A timer: stopped, or running, with the microseconds it has run. A timer that stops where it stands keeps its
elapsed time (R102); any other stopped timer has none. -/
structure Timer where
  running : Bool
  elapsed : Nat
  deriving DecidableEq, Repr

/-- A stopped timer. -/
def Timer.stopped : Timer := { running := false, elapsed := 0 }

/-- What the recognizers and the front end use of one in-use point's configuration (R14, 02 section 2.1). -/
structure PointConfig where
  spacing : Nat
  vmax : Nat
  tdA : Nat
  trA : Nat
  tdB : Nat
  trB : Nat
  deriving DecidableEq, Repr

/-! ## Front end -/

/-- A raw or filtered level (R3, R4). -/
inductive Level where
  | free
  | damped
  deriving DecidableEq, Repr

/-- The health of a channel or of the reference (R7, R10). -/
inductive Health where
  | ok
  | faulted
  deriving DecidableEq, Repr

/-- The front-end quantities of one channel (R17). -/
structure Channel where
  sample : Option Sample
  raw : Level
  run : Nat
  filtered : Level
  onset : Nat
  health : Health
  window : Nat
  deriving DecidableEq, Repr

/-- A channel's quantities after reset (R17). -/
def Channel.reset : Channel :=
  { sample := none, raw := .free, run := 0, filtered := .free, onset := 0, health := .ok, window := 0 }

/-- The two channels of a point. -/
structure PointChannels where
  a : Channel
  b : Channel
  deriving DecidableEq, Repr

/-- The supervised reference input (R10). -/
structure Reference where
  sample : Option Sample
  health : Health
  window : Nat
  deriving DecidableEq, Repr

/-! ## Point records -/

/-- The stage of the wheel now at the point, or BLOCKED (02, section 2.1). -/
inductive RecognizerState where
  | idle
  | leadA
  | bothA
  | trailA
  | leadB
  | bothB
  | trailB
  | blocked
  deriving DecidableEq, Repr

/-- Whether a point's counts can be relied on now (R32). -/
inductive Condition where
  | normal
  | disturbed
  | faulted
  deriving DecidableEq, Repr

/-- Whether a wheel stands, or may stand, over a point (R34). -/
inductive Head where
  | free
  | wheelOn
  deriving DecidableEq, Repr

/-- The direction of a passage: AB met channel A first (00, section 5.4). -/
inductive Direction where
  | ab
  | ba
  deriving DecidableEq, Repr

/-- The most recent completed passage (R31). -/
structure LastPassage where
  direction : Direction
  speed : Nat
  deriving DecidableEq, Repr

/-- The point record (02, section 2.1). -/
structure PointRecord where
  state : RecognizerState
  nAB : Count
  nBA : Count
  serial : Serial
  condition : Condition
  head : Head
  last : Option LastPassage
  lag : Option Nat
  dwell : Nat
  deriving DecidableEq, Repr

/-- A point record after reset (R39). -/
def PointRecord.reset : PointRecord :=
  { state := .idle, nAB := 0, nBA := 0, serial := 0, condition := .normal, head := .free, last := none, lag := none,
    dwell := 0 }

/-! ## Frames and the transmitter -/

/-- The state of a point as COUNT REPORT and SETTLE ANSWER both carry it (R48, R51). -/
structure PointContent where
  point : PointIndex
  head : Head
  start : Bool
  condition : Condition
  last : Option Direction
  serial : Serial
  nAB : Count
  nBA : Count
  deriving DecidableEq, Repr

/-- The state of a section (06). -/
inductive SectionState where
  | disturbed
  | occupied
  | proving
  | settling
  | clear
  deriving DecidableEq, Repr

/-- The disturbance cause of a section (06, section 6.4). -/
inductive DisturbanceCause where
  | start
  | halt
  | underflow
  | overflow
  | point
  | stale
  | jump
  | restart
  deriving DecidableEq, Repr

/-- The last restore outcome of a slot (R151). -/
inductive RestoreOutcome where
  | none
  | accepted
  | refusedState
  | refusedTerms
  | refusedMode
  deriving DecidableEq, Repr

/-- The content of a SECTION STATUS (R168). -/
structure StatusContent where
  slot : Slot
  state : SectionState
  number : Nat
  balance : Option Nat
  cause : Option DisturbanceCause
  restoreSerial : Option Serial
  restoreOutcome : RestoreOutcome
  deriving DecidableEq, Repr

/-- A frame as its sender builds it (04, section 4.3). `change` tells class 3 from 5, and 4 from 6. -/
inductive Frame where
  | countReport (source : Station) (change : Bool) (content : PointContent) (speed : Option Nat)
  | settleAnswer (source requester : Station) (slot : Slot) (tag : Serial) (content : PointContent)
  | sectionStatus (source : Station) (change : Bool) (content : StatusContent)
  | settleRequest (source : Station) (slot : Slot) (tag : Serial) (points : List (Station × PointIndex))
  | restoreCommand (source target : Station) (slot : Slot) (direct : Bool) (serial : Serial)
  deriving DecidableEq, Repr

/-- What an entry of the pending list is for, its key, and what it also holds: the round of a request (by the model's
own number and its tag), the tag of an answer (R65). -/
inductive EntryKind where
  | report (point : PointIndex)
  | status (slot : Slot)
  | request (slot : Slot) (round : Nat) (tag : Serial)
  | answer (requester : Station) (slot : Slot) (point : PointIndex) (tag : Serial)
  deriving DecidableEq, Repr

/-- An entry of the pending list, with its class number. `place` numbers the entries in the order in which each first
became pending (R65, R67). -/
structure Entry where
  kind : EntryKind
  cls : Nat
  place : Nat
  deriving DecidableEq, Repr

/-- A frame held in a layer, with the entry it was built from (R68). -/
structure LayerFrame where
  entry : Entry
  frame : Frame
  deriving DecidableEq, Repr

/-- The transmitter's state (R72). -/
inductive TxState where
  | quiet
  | waiting
  | arbitrating
  | sending
  | mute
  deriving DecidableEq, Repr

/-- The field line transmitter with the reporting timers and counters. `live` and `next` are the frames it has still to
send. `keptLive` and `keptNext` are the answers that stay in the two layers unsent after the entry to HALTED (R136), when
the transmitter has dropped their frames (R79, log 32). -/
structure Transmitter where
  state : TxState
  failures : Nat
  live : Option LayerFrame
  next : Option LayerFrame
  keptLive : Option LayerFrame
  keptNext : Option LayerFrame
  entries : List Entry
  nextPlace : Nat
  reportTimers : Table Timer 4
  startCounters : Table Nat 4
  statusTimers : Table Timer 8
  deriving DecidableEq, Repr

/-- The transmitter while RESET_IN is low (R55, R80, R136, R171). -/
def Transmitter.reset : Transmitter :=
  { state := .quiet, failures := 0, live := none, next := none, keptLive := none, keptNext := none, entries := [],
    nextPlace := 0, reportTimers := .const 4 .stopped, startCounters := .const 4 Config.startFrames,
    statusTimers := .const 8 .stopped }

/-! ## Receiver and frame handler -/

/-- The receiver, the receive FIFO and the frame handler. `sent` is the frame the transmitter completed at the stop
bit now being judged (R85, log 11). -/
structure Receiver where
  assembling : Bool
  buffer : List Byte
  inCharacter : Bool
  idleCount : Nat
  fifo : List (List Byte)
  handling : Option (List Byte)
  sent : Option (List Byte)
  deriving DecidableEq, Repr

/-- The receiver while RESET_IN is low (R103). -/
def Receiver.reset : Receiver :=
  { assembling := false, buffer := [], inCharacter := false, idleCount := 0, fifo := [], handling := none,
    sent := none }

/-! ## Mirror table -/

/-- The last accepted state of a remote point (05, section 5.4). `start` is the START memory. -/
structure MirrorView where
  nAB : Count
  nBA : Count
  head : Head
  condition : Condition
  serial : Serial
  start : Bool
  deriving DecidableEq, Repr

/-- The state of a mirror entry with the fields it then holds: an UNHEARD entry holds none. -/
inductive MirrorHold where
  | unheard
  | fresh (view : MirrorView)
  | stale (view : MirrorView)
  deriving DecidableEq, Repr

/-- A mirror entry (05, section 5.4). `overtaken` is the model's own: the age timer's expiry fell due at this instant and
a frame was taken first, so that the expiry does not take place (R99, log 34). -/
structure MirrorEntry where
  station : Station
  point : PointIndex
  hold : MirrorHold
  age : Timer
  overtaken : Bool
  deriving DecidableEq, Repr

/-! ## Section table -/

/-- Where a term reads its point. -/
inductive TermSource where
  | localPoint (point : PointIndex)
  | mirror (entry : EntryIndex)
  deriving DecidableEq, Repr

/-- Which direction of a term's point enters the section. -/
inductive Sense where
  | inwardAB
  | inwardBA
  deriving DecidableEq, Repr

/-- A term record (06, section 6.1): applied counts and serial, base counts. -/
structure Term where
  source : TermSource
  sense : Sense
  aAB : Count
  aBA : Count
  bAB : Count
  bBA : Count
  aSerial : Serial
  deriving DecidableEq, Repr

/-- The round record (R131). `unanswered` lists terms by position; `id` is the model's own number of the round. -/
structure Round where
  id : Nat
  tag : Serial
  unanswered : List Nat
  deadline : Timer
  deriving DecidableEq, Repr

/-- A section in an in-use slot (06, section 6.1). `rounds` numbers the rounds, the model's own. -/
structure Section where
  number : Nat
  direct : Bool
  terms : List Term
  state : SectionState
  balance : Option Nat
  cause : Option DisturbanceCause
  swept : Bool
  round : Option Round
  rounds : Nat
  holdOff : Timer
  nextTag : Serial
  restoreSerial : Option Serial
  restoreOutcome : RestoreOutcome
  deriving DecidableEq, Repr

/-! ## The loaded configuration -/

/-- The loaded configuration: the values that are handed to the blocks when the checks pass (R178). A point whose in-use
flag is clear has none. `mirror` and `sections` are the UNHEARD entries and the filled slots as they are made then; they
stand in their tables from the end of LOADING (R94, R107, log 29). -/
structure LoadedConfig where
  deb : Nat
  dwellCode : Nat
  attnRouting : Byte
  restore1 : Station
  restore2 : Station
  points : Table (Option PointConfig) 4
  mirror : Table (Option MirrorEntry) 16
  sections : Table (Option Section) 8
  deriving DecidableEq, Repr

/-! ## Indication unit -/

/-- A CLEAR line: whether it toggles, its level, its toggle phase (R166, R167). -/
structure ClearLine where
  toggling : Bool
  high : Bool
  phase : Nat
  deriving DecidableEq, Repr

/-- A CLEAR line held low with phase 0. -/
def ClearLine.low : ClearLine := { toggling := false, high := false, phase := 0 }

/-- The level of an ATTN output, active low (R173). -/
inductive AttnLevel where
  | active
  | released
  deriving DecidableEq, Repr

/-! ## The whole part -/

/-- The state of the part, and the queue of commands that are waiting. `cfgSelectLow` is the pin CFG_SEL, and `cfgClock`
counts the periods of CFG_CLK since the select went low (R176). -/
structure State where
  pending : List Instr
  mode : Mode
  cause : Option HaltCause
  station : Option Station
  config : Option LoadedConfig
  cfgSelectLow : Bool
  cfgClock : Nat
  loadingTimer : Timer
  listeningTimer : Timer
  front : Table PointChannels 4
  reference : Reference
  records : Table PointRecord 4
  tx : Transmitter
  rx : Receiver
  mirror : Table (Option MirrorEntry) 16
  sections : Table (Option Section) 8
  lines : Table ClearLine 8
  attn0 : AttnLevel
  attn1 : AttnLevel
  draws : Nat
  deriving DecidableEq, Repr

/-- No command of this part stops it: the spec gives every event an effect, or says that it has none. Closed and
empty, so nothing raises it (safe). -/
inductive Fault where
  deriving DecidableEq, Repr

/-- Why a command has no meaning. -/
inductive Refusal where
  /-- Raised by a dispatch arm whose command has no meaning yet; none is left. Safe: the model stops. -/
  | notModelled (mnemonic : String)
  deriving DecidableEq, Repr

/-- The part while RESET_IN is low, power-on included: R17, R39, R55, R80, R103, R107, R166, R174, R183. The queue of
commands is empty (log 7, log 10). -/
def State.reset : State :=
  { pending := []
    mode := .heldInReset
    cause := none
    station := none
    config := none
    cfgSelectLow := false
    cfgClock := 0
    loadingTimer := .stopped
    listeningTimer := .stopped
    front := .const 4 { a := .reset, b := .reset }
    reference := { sample := none, health := .ok, window := 0 }
    records := .const 4 .reset
    tx := .reset
    rx := .reset
    mirror := .const 16 none
    sections := .const 8 none
    lines := .const 8 .low
    attn0 := .active
    attn1 := .active
    draws := 0 }

end Sys2Proof.Machine
end

