-- ==== Sys2Proof/Machine/Ops.lean ====
section
/-! DEFINITION. The smallest shared operations: timers, the lists of indices, and what the loaded configuration and
the part mode say to every block. -/

namespace Sys2Proof.Machine

/-! ## Timers -/

/-- A timer that starts, or starts again, from the beginning. -/
def Timer.started : Timer := { running := true, elapsed := 0 }

/-- A timer that stops where it stands (R102). -/
def Timer.halt (t : Timer) : Timer := { t with running := false }

/-- One microsecond passes for a timer of this length. -/
def Timer.tick (length : Nat) (t : Timer) : Timer :=
  if t.running then { t with elapsed := min (t.elapsed + 1) length } else t

/-- The microsecond now passing brings this timer to its length. -/
def Timer.due (length : Nat) (t : Timer) : Bool :=
  t.running && decide (length ≤ t.elapsed + 1)

/-! ## Indices in ascending order -/

/-- The points in ascending order. -/
def allPoints : List PointIndex := [0, 1, 2, 3]

/-- The slots in ascending order. -/
def allSlots : List Slot := [0, 1, 2, 3, 4, 5, 6, 7]

/-- The mirror places in ascending order. -/
def allEntries : List EntryIndex := [0, 1, 2, 3, 4, 5, 6, 7, 8, 9, 10, 11, 12, 13, 14, 15]

/-! ## Mode and configuration -/

/-- The modes in which the front end sweeps and the receiver observes the line (R15, R101): LISTENING and RUNNING. -/
def Mode.listens : Mode → Bool
  | .listening => true
  | .running => true
  | .heldInReset => false
  | .loading => false
  | .halted => false

/-- The configuration of a point, absent where the point is not in use or nothing is loaded. -/
def State.pointConfig (s : State) (p : PointIndex) : Option PointConfig :=
  match s.config with
  | none => none
  | some c => c.points.get p

/-- The point is in use in the loaded configuration (R13, R37). -/
def State.pointInUse (s : State) (p : PointIndex) : Bool := (s.pointConfig p).isSome

/-- The debounce length in sweeps (R4). -/
def State.deb (s : State) : Nat :=
  match s.config with
  | none => 0
  | some c => c.deb

/-- The dwell length in sweeps (R25). -/
def State.dwellLength (s : State) : Nat :=
  match s.config with
  | none => 0
  | some c => Config.sweepsPerDwellCode * c.dwellCode

/-- This station's number; 0, which is no station, while it has none. -/
def State.stationNumber (s : State) : Station := s.station.getD 0

/-- The station and point that a term names on the field line; none for a local term or a place with no entry. -/
def State.remotePoint (s : State) (t : Term) : Option (Station × PointIndex) :=
  match t.source with
  | .localPoint _ => none
  | .mirror m => (s.mirror.get m).map fun e => (e.station, e.point)

/-! ## Writing one record of a table -/

/-- The state with the transmitter replaced. -/
def State.withTx (s : State) (tx : Transmitter) : State := { s with tx := tx }

/-- The state with the receiver replaced. -/
def State.withRx (s : State) (rx : Receiver) : State := { s with rx := rx }

/-- The state with one slot's section replaced. -/
def State.setSection (s : State) (n : Slot) (sec : Section) : State :=
  { s with sections := s.sections.set n (some sec) }

/-- The state with one mirror entry replaced. -/
def State.setMirror (s : State) (m : EntryIndex) (e : MirrorEntry) : State :=
  { s with mirror := s.mirror.set m (some e) }

/-- The state with one CLEAR line replaced. -/
def State.setLine (s : State) (n : Slot) (l : ClearLine) : State :=
  { s with lines := s.lines.set n l }

end Sys2Proof.Machine
end

