-- ==== Sys2Proof/Machine/Balance.lean ====
section
/-! DEFINITION. The section engine (06, 07, 08): what a section makes of the events that reach it. Everything here
answers the section after the event; Sections.lean hands the change on. -/

namespace Sys2Proof.Machine

/-! ## Sources -/

/-- What a term reads from its source (R106). -/
structure SourceView where
  nAB : Count
  nBA : Count
  head : Head
  condition : Condition
  serial : Serial
  fresh : Bool
  deriving DecidableEq, Repr

/-- A mirror view as a term reads it. -/
def MirrorView.source (v : MirrorView) (fresh : Bool) : SourceView :=
  { nAB := v.nAB, nBA := v.nBA, head := v.head, condition := v.condition, serial := v.serial, fresh := fresh }

/-- A point record as a term reads it. -/
def PointRecord.source (r : PointRecord) : SourceView :=
  { nAB := r.nAB, nBA := r.nBA, head := r.head, condition := r.condition, serial := r.serial, fresh := true }

/-- The source values of a term as they stand; absent for an UNHEARD entry and for a place with none (R106). -/
def State.source (s : State) : TermSource → Option SourceView
  | .localPoint p => some (s.records.get p).source
  | .mirror m =>
    match s.mirror.get m with
    | none => none
    | some e =>
      match e.hold with
      | .unheard => none
      | .fresh v => some (v.source true)
      | .stale v => some (v.source false)

/-- A source is quiet: NORMAL, FREE and, for a remote one, FRESH (R106). -/
def SourceView.quiet (v : SourceView) : Bool := v.condition = .normal && v.head = .free && v.fresh

/-- A term is quiet (R106). The serial plays no part (R159), not even one that an overspeed passage has moved before a
restore; and a wheel in passage is not quiet, even where the restore is taken before the completion that counts it
(log 33). -/
def State.termQuiet (s : State) (t : Term) : Bool :=
  match s.source t.source with
  | none => false
  | some v => v.quiet

/-- Every term of the section is quiet. -/
def State.allQuiet (s : State) (sec : Section) : Bool := sec.terms.all s.termQuiet

/-- The term's source is a mirror entry. -/
def Term.isRemote (t : Term) : Bool :=
  match t.source with
  | .localPoint _ => false
  | .mirror _ => true

/-- The section has a remote term. -/
def Section.hasRemote (sec : Section) : Bool := sec.terms.any Term.isRemote

/-- A term of the section has this source. -/
def Section.uses (sec : Section) (src : TermSource) : Bool := sec.terms.any fun t => t.source = src

/-! ## Contributions (R111) -/

/-- A delta of two counts, modulo 65536 (R111). -/
def countDelta (now before : Count) : Nat := (now - before).toNat

/-- The contribution of a term whose source shows these values (R111). -/
def Term.contribution (t : Term) (v : SourceView) : Int :=
  let d1 : Int := countDelta v.nAB t.aAB
  let d2 : Int := countDelta v.nBA t.aBA
  match t.sense with
  | .inwardAB => d1 - d2
  | .inwardBA => d2 - d1

/-- The net contribution of an event whose source shows these values: the sum over the reached terms (R111). -/
def Section.netContribution (sec : Section) (src : TermSource) (v : SourceView) : Int :=
  (sec.terms.map fun t => if t.source = src then t.contribution v else 0).sum

/-- The term after an event that reached it: applied counts and serial follow the source (R109, step 4). -/
def Term.follow (src : TermSource) (v : SourceView) (t : Term) : Term :=
  if t.source = src then { t with aAB := v.nAB, aBA := v.nBA, aSerial := v.serial } else t

/-! ## Disturbance -/

/-- Entry to DISTURBED from any other state (R115); a section already DISTURBED keeps its cause. -/
def Section.disturb (cause : DisturbanceCause) (sec : Section) : Section :=
  if sec.state = .disturbed then sec
  else
    { sec with state := .disturbed, balance := none, cause := some cause, round := none, holdOff := .stopped }

/-- A reached term's source serial has moved or its condition is not NORMAL (R116). -/
def Section.pointDisturbed (sec : Section) (src : TermSource) (v : SourceView) : Bool :=
  sec.terms.any fun t => t.source = src && (v.serial ≠ t.aSerial || v.condition ≠ .normal)

/-- The net contribution is added to the balance; outside 0 to 1023 the section is DISTURBED (R112). -/
def Section.applyNet (net : Int) (sec : Section) : Section :=
  match sec.balance with
  | none => sec
  | some b =>
    if (b : Int) + net < 0 then sec.disturb .underflow
    else if (Config.balanceLimit : Int) < (b : Int) + net then sec.disturb .overflow
    else { sec with balance := some ((b : Int) + net).toNat }

/-! ## Rounds and settle entry -/

/-- A round closed otherwise than by completion, the section passing to OCCUPIED with its hold-off started (R140). -/
def Section.closeRound (sec : Section) : Section :=
  { sec with state := .occupied, round := none, holdOff := .started }

/-- The positions of the remote terms (R133). -/
def Section.remotePositions (sec : Section) : List Nat :=
  (List.range sec.terms.length).filter fun i => (sec.terms[i]?.map Term.isRemote).getD false

/-- Entry to SETTLING: CLEAR at once where every term is local (R132), else a round is opened (R133). -/
def Section.enterSettling (sec : Section) : Section :=
  if sec.hasRemote then
    { sec with
      state := .settling
      round :=
        some { id := sec.rounds, tag := sec.nextTag, unanswered := sec.remotePositions, deadline := .started }
      rounds := sec.rounds + 1
      nextTag := sec.nextTag + 1 }
  else { sec with state := .clear }

/-- The settle-entry condition (R125). -/
def State.meetsSettleEntry (s : State) (sec : Section) : Bool :=
  (sec.state = .occupied || (sec.state = .proving && sec.swept)) && !sec.holdOff.running && sec.balance = some 0 &&
    s.allQuiet sec

/-- The settle-entry test that ends an evaluation (R109, step 6). -/
def State.settleTest (s : State) (sec : Section) : Section :=
  if s.meetsSettleEntry sec then sec.enterSettling else sec

/-! ## The evaluation of a term event (R109) -/

/-- Step 5 of R109 for the state the section now holds: R123 for PROVING, R141 for SETTLING, R127 for CLEAR; DISTURBED
and OCCUPIED change no more (R120, R121). -/
def Section.stateOutcome (net : Int) (head : Head) (sec : Section) : Section :=
  match sec.state with
  | .disturbed => sec
  | .occupied => sec
  | .proving => if 1 ≤ sec.balance.getD 0 then { sec with swept := true } else sec
  | .settling => if 0 < net ∨ head = .wheelOn then sec.closeRound else sec
  | .clear => if 0 < net ∨ head = .wheelOn then { sec with state := .occupied } else sec

/-- Steps 1 to 3 of R109: a disturbing notification, a moved serial or an abnormal condition, the net contribution. -/
def Section.takeCounts (notice : Option DisturbanceCause) (src : TermSource) (v : SourceView) (sec : Section) :
    Section :=
  match sec.state, notice with
  | .disturbed, _ => sec
  | _, some cause => sec.disturb cause
  | _, none =>
    if sec.pointDisturbed src v then sec.disturb .point else sec.applyNet (sec.netContribution src v)

/-- Steps 1 to 5 of R109: the counts, the reached terms following their source, the outcome for the state. -/
def Section.takeEvent (notice : Option DisturbanceCause) (src : TermSource) (v : SourceView) (sec : Section) :
    Section :=
  let counted := sec.takeCounts notice src v
  Section.stateOutcome (sec.netContribution src v) v.head
    { counted with terms := counted.terms.map (Term.follow src v) }

/-- The evaluation of a section by a point change (`notice` none, a local source) or by a mirror notification: UPDATE
(none) or RESTART, JUMP, STALE (their cause). An absent source reaches no section (R106). -/
def State.evaluateSection (s : State) (notice : Option DisturbanceCause) (src : TermSource) (sec : Section) : Section :=
  match s.source src with
  | none => sec
  | some v => s.settleTest (sec.takeEvent notice src v)

/-- The evaluation at a hold-off expiry: steps 5 to 7 alone (R109, R124). -/
def State.expireHoldOff (s : State) (sec : Section) : Section :=
  s.settleTest { sec with holdOff := .stopped }

/-! ## Answers to a round -/

/-- The term at this position is a remote one whose mirror entry names this station and point (R137). -/
def State.termNames (s : State) (sec : Section) (station : Station) (p : PointIndex) (position : Nat) : Bool :=
  match sec.terms[position]? with
  | none => false
  | some t => s.remotePoint t = some (station, p)

/-- An answer counts for the open round of the section: its tag is the round's, its mark is set, and a term of the
unanswered set names its point (R137). -/
def State.answerCounts (s : State) (tag : Serial) (station : Station) (p : PointIndex) (mark : Bool) (sec : Section)
    (r : Round) : Bool :=
  r.tag == tag && mark && r.unanswered.any (s.termNames sec station p)

/-- The terms left unanswered after a counting answer (R137). -/
def State.stillUnanswered (s : State) (station : Station) (p : PointIndex) (sec : Section) (r : Round) : List Nat :=
  r.unanswered.filter fun i => !s.termNames sec station p i

/-- An answer reaches the settlement logic for the section: it may take terms out of the unanswered set, and
completes the round when none is left (R137 to R139). -/
def State.takeAnswer (s : State) (tag : Serial) (station : Station) (p : PointIndex) (mark : Bool) (sec : Section) :
    Section :=
  match sec.round with
  | none => sec
  | some r =>
    if s.answerCounts tag station p mark sec r then
      match s.stillUnanswered station p sec r with
      | [] => { sec with state := .clear, round := none }
      | i :: rest => { sec with round := some { r with unanswered := i :: rest } }
    else sec

/-- The expiry of the deadline of an open round (R143). -/
def Section.expireDeadline (sec : Section) : Section :=
  match sec.round with
  | none => sec
  | some _ => sec.closeRound

/-! ## Restoration -/

/-- A restore-authorized station (R154). An unused place holds 0, which no handled frame has as its source. -/
def State.authorized (s : State) (source : Station) : Bool :=
  match s.config with
  | none => false
  | some c => source ≠ 0 && (c.restore1 = source || c.restore2 = source)

/-- The verdict on a judged command: rows 4 to 7 of R152. A restore taken just before the completion of a passage finds
WHEEL_ON and is refused, by R159 against row 2 of R163 (log 33). -/
def State.restoreVerdict (s : State) (direct : Bool) (sec : Section) : RestoreOutcome :=
  if sec.state ≠ .disturbed then .refusedState
  else if direct && !sec.direct then .refusedMode
  else if !s.allQuiet sec then .refusedTerms
  else .accepted

/-- A term at an acceptance: applied counts, base counts and applied serial take the source (R160). -/
def State.rebaseTerm (s : State) (t : Term) : Term :=
  match s.source t.source with
  | none => t
  | some v => { t with aAB := v.nAB, aBA := v.nBA, bAB := v.nAB, bBA := v.nBA, aSerial := v.serial }

/-- The section at an acceptance, in the state of a PROVE restore (R160, R161). -/
def State.restoredSection (s : State) (sec : Section) : Section :=
  { sec with
    state := .proving
    balance := some 0
    cause := none
    swept := false
    terms := sec.terms.map s.rebaseTerm }

/-- An ACCEPTED restore: PROVING with the settle-entry test (R161), or SETTLING at once (R162). -/
def State.acceptRestore (s : State) (direct : Bool) (sec : Section) : Section :=
  if direct then (s.restoredSection sec).enterSettling else s.settleTest (s.restoredSection sec)

/-- The command serial has been judged for this slot (R155). -/
def Section.isDuplicate (serial : Serial) (sec : Section) : Bool := sec.restoreSerial = some serial

/-- A command of an authorized station for the section: a duplicate is ignored (R155), any other is judged and its
serial recorded with the verdict (R156). -/
def State.takeRestore (s : State) (direct : Bool) (serial : Serial) (sec : Section) : Section :=
  if sec.isDuplicate serial then sec
  else
    let verdict := s.restoreVerdict direct sec
    let judged := if verdict = .accepted then s.acceptRestore direct sec else sec
    { judged with restoreSerial := some serial, restoreOutcome := verdict }

end Sys2Proof.Machine
end

