-- ==== Sys2Proof/Machine/Flags.lean ====
section
/-! DEFINITION. The indications (09): the CLEAR lines with their toggling, the four ATTN condition classes and the two
ATTN lines. -/

namespace Sys2Proof.Machine

/-! ## CLEAR lines -/

/-- A section change carrying this state reaches the line (R166, R167). -/
def ClearLine.drive (state : SectionState) (l : ClearLine) : ClearLine :=
  match state with
  | .clear => if l.toggling then l else { toggling := true, high := true, phase := 0 }
  | .disturbed => .low
  | .occupied => .low
  | .proving => .low
  | .settling => .low

/-- A sweep completion reaches the line (R167). -/
def ClearLine.sweep (l : ClearLine) : ClearLine :=
  if l.toggling then
    if l.phase + 1 = Config.togglesHigh then { l with phase := l.phase + 1, high := false }
    else if l.phase + 1 = Config.togglesPeriod then { l with phase := 0, high := true }
    else { l with phase := l.phase + 1 }
  else l

/-! ## ATTN condition classes (R172) -/

/-- The four condition classes, in the order of the routing byte. -/
inductive AttnClass where
  | sectionDisturbed
  | pointFaulted
  | pointDisturbed
  | mirrorNotFresh
  deriving DecidableEq, Repr

/-- The condition classes in the order of the routing byte. -/
def attnClasses : List AttnClass := [.sectionDisturbed, .pointFaulted, .pointDisturbed, .mirrorNotFresh]

/-- A slot in use holds a DISTURBED section. -/
def State.slotDisturbed (s : State) (n : Slot) : Bool :=
  match s.sections.get n with
  | none => false
  | some sec => sec.state = .disturbed

/-- A configured mirror entry is UNHEARD or STALE. -/
def State.entryNotFresh (s : State) (m : EntryIndex) : Bool :=
  match s.mirror.get m with
  | none => false
  | some e =>
    match e.hold with
    | .fresh _ => false
    | .unheard => true
    | .stale _ => true

/-- A class is live while its condition holds (R172). -/
def State.attnLive (s : State) : AttnClass → Bool
  | .sectionDisturbed => allSlots.any s.slotDisturbed
  | .pointFaulted => allPoints.any fun p => s.pointInUse p && (s.records.get p).condition = .faulted
  | .pointDisturbed => allPoints.any fun p => s.pointInUse p && (s.records.get p).condition = .disturbed
  | .mirrorNotFresh => allEntries.any s.entryNotFresh

/-- The enable bit of a class in the routing byte. -/
def AttnClass.enableBit : AttnClass → Nat
  | .sectionDisturbed => 7
  | .pointFaulted => 6
  | .pointDisturbed => 5
  | .mirrorNotFresh => 4

/-- The select bit of a class in the routing byte: 0 names ATTN0, 1 names ATTN1. -/
def AttnClass.selectBit : AttnClass → Nat
  | .sectionDisturbed => 3
  | .pointFaulted => 2
  | .pointDisturbed => 1
  | .mirrorNotFresh => 0

/-- The routing byte, all clear while no configuration is loaded. -/
def State.attnRouting (s : State) : Byte :=
  match s.config with
  | none => 0
  | some c => c.attnRouting

/-- A class is enabled and selected to this line (`true` is ATTN1). -/
def State.attnRouted (s : State) (line : Bool) (c : AttnClass) : Bool :=
  s.attnRouting.getLsbD c.enableBit && s.attnRouting.getLsbD c.selectBit == line

/-- The level of an ATTN line: following the routing in LISTENING and RUNNING (R173), active in every other mode
(R174). -/
def State.attnLevel (s : State) (line : Bool) : AttnLevel :=
  if s.mode.listens then
    if attnClasses.any fun c => s.attnRouted line c && s.attnLive c then .active else .released
  else .active

/-- The ATTN pins follow the state as it stands after the event (R172, R173). -/
def State.driveAttn (s : State) : State :=
  { s with attn0 := s.attnLevel false, attn1 := s.attnLevel true }

end Sys2Proof.Machine
end

