-- ==== Sys2Proof/Machine/Operands.lean ====
section
/-! DEFINITION. What the operands of the line commands mean: the value of a sampled bit (R57, R58), the byte of a
character (R59, R82) and of the configuration memory (R176), the bits a frame puts on the line (R59), and the CRC (R62). -/

namespace Sys2Proof.Machine

/-! ## Bits and characters -/

/-- A sample counts as dominant only if a neighbouring sample is dominant too: a dominant level of fewer than two
consecutive samples is taken as recessive (R57). -/
def validDominant (before here after : LineLevel) : Bool :=
  here = .dominant && (before = .dominant || after = .dominant)

/-- The value of a bit: the majority of its samples 7, 8 and 9 (R58). `true` is 1, recessive (R56). -/
def bitValue (b : BitSamples) : Bool :=
  let d7 := validDominant b.s6 b.s7 b.s8
  let d8 := validDominant b.s7 b.s8 b.s9
  let d9 := validDominant b.s8 b.s9 b.s10
  !((d7 && d8) || (d7 && d9) || (d8 && d9))

/-- A bit time sampled at one level throughout. -/
def steadyBit (l : LineLevel) : BitSamples := { s6 := l, s7 := l, s8 := l, s9 := l, s10 := l }

/-- A byte from its bits, the most significant first (R59, R82, R176). -/
def byteOfBits (bits : List Bool) : Byte := bits.foldl BitVec.shiftConcat 0

/-- The byte of a character from its data bits, the first received the most significant (R82). -/
def byteOfData (data : List BitSamples) : Byte := byteOfBits (data.map bitValue)

/-- The whole bytes of a row of bits, each most significant bit first (R176). -/
def bytesOfBits : List Bool → List Byte
  | b7 :: b6 :: b5 :: b4 :: b3 :: b2 :: b1 :: b0 :: rest =>
    byteOfBits [b7, b6, b5, b4, b3, b2, b1, b0] :: bytesOfBits rest
  | _ => []

/-- The bits of a byte, most significant first (R59). -/
def byteBits (b : Byte) : List Bool :=
  [b.getLsbD 7, b.getLsbD 6, b.getLsbD 5, b.getLsbD 4, b.getLsbD 3, b.getLsbD 2, b.getLsbD 1, b.getLsbD 0]

/-- A character: start bit 0, eight data bits, stop bit 1 (R59). -/
def characterBits (b : Byte) : List Bool := false :: (byteBits b ++ [true])

/-- The bits a frame puts on the line, without gaps (R59). -/
def frameBits (bytes : List Byte) : List Bool := bytes.flatMap characterBits

/-! ## The CRC -/

/-- One bit enters the check, generator polynomial 1021h (R62). -/
def crcBit (register : BitVec 16) (bit : Bool) : BitVec 16 :=
  if register.msb ^^ bit then (register <<< 1) ^^^ 0x1021#16 else register <<< 1

/-- One byte enters the check, most significant bit first (R62). -/
def crcByte (register : BitVec 16) (b : Byte) : BitVec 16 := (byteBits b).foldl crcBit register

/-- The check register after these bytes, started at FFFFh (R62). -/
def crc (bytes : List Byte) : BitVec 16 := bytes.foldl crcByte 0xFFFF#16

/-! ## Words of two bytes -/

/-- The more significant byte of a word. -/
def highByte (w : BitVec 16) : Byte := w.extractLsb' 8 8

/-- The less significant byte of a word. -/
def lowByte (w : BitVec 16) : Byte := w.extractLsb' 0 8

/-- A word from its two bytes, the more significant first (R61). -/
def wordOf (high low : Byte) : BitVec 16 := high ++ low

end Sys2Proof.Machine
end

