-- ==== Sys2Proof/Machine/Frames.lean ====
section
/-! DEFINITION. The frame tables (04, sections 4.2 and 4.3): how a frame is built byte by byte, and how a received frame
is read, with every ground of invalidity of R64 and R89. -/

namespace Sys2Proof.Machine

/-! ## Codes -/

/-- Condition codes of the point byte. -/
def Condition.code : Condition → BitVec 2
  | .normal => 0
  | .disturbed => 1
  | .faulted => 2

/-- Last-direction codes of the point byte. -/
def directionCode : Option Direction → BitVec 2
  | none => 0
  | some .ab => 1
  | some .ba => 2

/-- Head code of the point byte. -/
def Head.code : Head → BitVec 1
  | .free => 0
  | .wheelOn => 1

/-- A flag as one bit. -/
def flagCode (b : Bool) : BitVec 1 := if b then 1 else 0

/-- State codes of SECTION STATUS (R168). -/
def SectionState.code : SectionState → BitVec 3
  | .disturbed => 0
  | .occupied => 1
  | .proving => 2
  | .settling => 3
  | .clear => 4

/-- Cause codes of SECTION STATUS, 0 while absent (R168). -/
def causeCode : Option DisturbanceCause → Byte
  | none => 0
  | some .start => 1
  | some .halt => 2
  | some .underflow => 3
  | some .overflow => 4
  | some .point => 5
  | some .stale => 6
  | some .jump => 7
  | some .restart => 8

/-- Outcome codes of SECTION STATUS (R168). -/
def RestoreOutcome.code : RestoreOutcome → BitVec 3
  | .none => 0
  | .accepted => 1
  | .refusedState => 2
  | .refusedTerms => 3
  | .refusedMode => 4

/-- The speed word of a COUNT REPORT: FFFFh while the last passage is absent (R31, R48). -/
def speedWord : Option Nat → BitVec 16
  | none => 0xFFFF
  | some v => BitVec.ofNat 16 v

/-- The balance word of a SECTION STATUS: FFFFh while absent (R168). -/
def balanceWord : Option Nat → BitVec 16
  | none => 0xFFFF
  | some v => BitVec.ofNat 16 v

/-! ## Building -/

/-- The class of a frame (R63). -/
def Frame.cls : Frame → Nat
  | .restoreCommand _ _ _ _ _ => 0
  | .settleAnswer _ _ _ _ _ => 1
  | .settleRequest _ _ _ _ => 2
  | .countReport _ change _ _ => if change then 3 else 5
  | .sectionStatus _ change _ => if change then 4 else 6

/-- The source station of a frame (R61). -/
def Frame.source : Frame → Station
  | .restoreCommand source _ _ _ _ => source
  | .settleAnswer source _ _ _ _ => source
  | .settleRequest source _ _ _ => source
  | .countReport source _ _ _ => source
  | .sectionStatus source _ _ => source

/-- The point byte, shared by COUNT REPORT and SETTLE ANSWER. -/
def PointContent.byte (c : PointContent) : Byte :=
  BitVec.ofFin (w := 2) c.point ++ c.head.code ++ flagCode c.start ++ c.condition.code ++ directionCode c.last

/-- The byte that names a point in a SETTLE REQUEST: 0, station, point. -/
def pointName (p : Station × PointIndex) : Byte :=
  0#1 ++ p.1 ++ BitVec.ofFin (w := 2) p.2

/-- The body of a frame (04, section 4.3). -/
def Frame.body : Frame → List Byte
  | .countReport _ _ c speed =>
      [c.byte, c.serial, highByte c.nAB, lowByte c.nAB, highByte c.nBA, lowByte c.nBA, highByte (speedWord speed),
        lowByte (speedWord speed)]
  | .settleAnswer _ requester slot tag c =>
      [0#3 ++ requester, 0#5 ++ BitVec.ofFin (w := 3) slot, tag, c.byte, c.serial, highByte c.nAB, lowByte c.nAB,
        highByte c.nBA, lowByte c.nBA]
  | .settleRequest _ slot tag points =>
      (BitVec.ofFin (w := 3) slot ++ 0#2 ++ BitVec.ofNat 3 points.length) :: tag :: points.map pointName
  | .sectionStatus _ _ c =>
      [BitVec.ofFin (w := 3) c.slot ++ 0#2 ++ c.state.code, highByte (BitVec.ofNat 16 c.number),
        lowByte (BitVec.ofNat 16 c.number), highByte (balanceWord c.balance), lowByte (balanceWord c.balance),
        causeCode c.cause, c.restoreSerial.getD 0,
        flagCode c.restoreSerial.isSome ++ 0#4 ++ c.restoreOutcome.code]
  | .restoreCommand _ target slot direct serial =>
      [0#3 ++ target, BitVec.ofFin (w := 3) slot ++ 0#4 ++ flagCode direct, serial]

/-- The arbitration byte: class, then source station (R61). -/
def arbitrationByte (cls : Nat) (source : Station) : Byte := BitVec.ofNat 3 cls ++ source

/-- The bytes of a frame before its CRC: arbitration byte, length byte, body (R61). -/
def Frame.head (f : Frame) : List Byte :=
  arbitrationByte f.cls f.source :: BitVec.ofNat 8 f.body.length :: f.body

/-- The whole frame as sent, the CRC last (R61, R62). -/
def Frame.encode (f : Frame) : List Byte :=
  f.head ++ [highByte (crc f.head), lowByte (crc f.head)]

/-! ## Reading -/

/-- A received frame that R64 does not call invalid, with the fields the frame handler uses. -/
inductive Received where
  | countReport (source : Station) (content : PointContent)
  | settleAnswer (source requester : Station) (slot : Slot) (tag : Serial) (content : PointContent)
  | settleRequest (source : Station) (slot : Slot) (tag : Serial) (points : List (Station × PointIndex))
  | sectionStatus (source : Station)
  | restoreCommand (source target : Station) (slot : Slot) (direct : Bool) (serial : Serial)
  deriving DecidableEq, Repr

/-- The class of a frame's arbitration byte. -/
def classOfByte (b : Byte) : Nat := (b.extractLsb' 5 3).toNat

/-- The source station of a frame's arbitration byte. -/
def stationOfByte (b : Byte) : Station := b.extractLsb' 0 5

/-- The class of a received frame; 7, no kind, for no bytes at all. -/
def classOf : List Byte → Nat
  | [] => 7
  | b :: _ => classOfByte b

/-- The source station of a received frame. -/
def sourceOf : List Byte → Station
  | [] => 0
  | b :: _ => stationOfByte b

/-- A condition code; 3 is invalid (R64). -/
def conditionOfCode (c : BitVec 2) : Option Condition :=
  match c.toNat with
  | 0 => some .normal
  | 1 => some .disturbed
  | 2 => some .faulted
  | _ => none

/-- A last-direction code; 3 is invalid (R64). -/
def directionOfCode (c : BitVec 2) : Option (Option Direction) :=
  match c.toNat with
  | 0 => some none
  | 1 => some (some .ab)
  | 2 => some (some .ba)
  | _ => none

/-- A point byte with the serial and counts that follow it. -/
def parsePoint (pointByte serial : Byte) (nAB nBA : Count) : Option PointContent :=
  match conditionOfCode (pointByte.extractLsb' 2 2), directionOfCode (pointByte.extractLsb' 0 2) with
  | some condition, some last =>
      some
        { point := (pointByte.extractLsb' 6 2).toFin
          head := if pointByte.getLsbD 5 then .wheelOn else .free
          start := pointByte.getLsbD 4
          condition := condition
          last := last
          serial := serial
          nAB := nAB
          nBA := nBA }
  | _, _ => none

/-- A COUNT REPORT speed is at most 999, or FFFFh (R64). -/
def speedValid (w : BitVec 16) : Bool := decide (w.toNat ≤ Config.speedLimit) || w == 0xFFFF#16

/-- The station and point that a byte of a SETTLE REQUEST names. -/
def pointNamed (b : Byte) : Station × PointIndex := (b.extractLsb' 2 5, (b.extractLsb' 0 2).toFin)

/-- The slot in the three high bits of a byte. -/
def slotHigh (b : Byte) : Slot := (b.extractLsb' 5 3).toFin

/-- The body of a frame of each class, or none where R64 makes it invalid; class 7 has no kind (R89). Bits marked 0
are not examined. -/
def parseBody (cls : Nat) (source : Station) (body : List Byte) : Option Received :=
  match cls, body with
  | 0, [b0, b1, b2] =>
      if stationOfByte b0 = 0 then none
      else some (.restoreCommand source (stationOfByte b0) (slotHigh b1) (b1.getLsbD 0) b2)
  | 1, [b0, b1, b2, b3, b4, b5, b6, b7, b8] =>
      if stationOfByte b0 = 0 then none
      else (parsePoint b3 b4 (wordOf b5 b6) (wordOf b7 b8)).map fun c =>
        .settleAnswer source (stationOfByte b0) (b1.extractLsb' 0 3).toFin b2 c
  | 2, b0 :: b1 :: names =>
      let k := (b0.extractLsb' 0 3).toNat
      let points := names.map pointNamed
      if 1 ≤ k ∧ k ≤ 4 ∧ points.length = k ∧ points.all (fun p => p.1 != 0) then
        some (.settleRequest source (slotHigh b0) b1 points)
      else none
  | 3, [b0, b1, b2, b3, b4, b5, b6, b7] =>
      if speedValid (wordOf b6 b7) then
        (parsePoint b0 b1 (wordOf b2 b3) (wordOf b4 b5)).map (.countReport source ·)
      else none
  | 5, [b0, b1, b2, b3, b4, b5, b6, b7] =>
      if speedValid (wordOf b6 b7) then
        (parsePoint b0 b1 (wordOf b2 b3) (wordOf b4 b5)).map (.countReport source ·)
      else none
  | 4, [_, _, _, _, _, _, _, _] => some (.sectionStatus source)
  | 6, [_, _, _, _, _, _, _, _] => some (.sectionStatus source)
  | _, _ => none

/-- A complete frame read by the frame handler; none where it is discarded under R89. Its last two bytes are the
CRC. -/
def parseFrame (bytes : List Byte) : Option Received :=
  match bytes with
  | arbitration :: _ :: rest =>
      if stationOfByte arbitration = 0 then none
      else parseBody (classOfByte arbitration) (stationOfByte arbitration) (rest.take (rest.length - 2))
  | _ => none

/-- What a receiver takes a well-built frame for. -/
def Frame.received : Frame → Received
  | .countReport source _ c _ => .countReport source c
  | .settleAnswer source requester slot tag c => .settleAnswer source requester slot tag c
  | .sectionStatus source _ _ => .sectionStatus source
  | .settleRequest source slot tag points => .settleRequest source slot tag points
  | .restoreCommand source target slot direct serial => .restoreCommand source target slot direct serial

end Sys2Proof.Machine
end

