-- ==== Sys2Proof/Machine/Transmitter.lean ====
section
/-! DEFINITION. The pending list, the two layers and the due rules (03; 04, sections 4.4 and 4.5): how a cause is held,
how a frame is built, refreshed, loaded and preempted. -/

namespace Sys2Proof.Machine

/-! ## Entries and their keys -/

/-- Two entries are of the same kind and key; the round of a request and the tag of an answer are no part of the key
(R65). -/
def EntryKind.sameKey : EntryKind → EntryKind → Bool
  | .report p, .report q => p == q
  | .status m, .status n => m == n
  | .request m _ _, .request n _ _ => m == n
  | .answer r m p _, .answer q n k _ => r == q && m == n && p == k
  | _, _ => false

/-- The entry is a report of this point. -/
def EntryKind.isReport (p : PointIndex) : EntryKind → Bool
  | .report q => q == p
  | _ => false

/-- The entry is a status of this slot. -/
def EntryKind.isStatus (n : Slot) : EntryKind → Bool
  | .status m => m == n
  | _ => false

/-- The entry is a request of this slot. -/
def EntryKind.isRequest (n : Slot) : EntryKind → Bool
  | .request m _ _ => m == n
  | _ => false

/-- The entry is an answer. -/
def EntryKind.isAnswer : EntryKind → Bool
  | .answer _ _ _ _ => true
  | _ => false

/-- The frame of the entry carries the record of this point: a report or an answer (R70). -/
def EntryKind.carriesPoint (p : PointIndex) : EntryKind → Bool
  | .report q => q == p
  | .answer _ _ q _ => q == p
  | _ => false

/-! ## Building a frame -/

/-- The content shared by the frames of a local point, from its record and START counter (R48, R51). -/
def State.pointContent (s : State) (p : PointIndex) : PointContent :=
  let r := s.records.get p
  { point := p
    head := r.head
    start := decide (0 < s.tx.startCounters.get p)
    condition := r.condition
    last := r.last.map LastPassage.direction
    serial := r.serial
    nAB := r.nAB
    nBA := r.nBA }

/-- The content of a SECTION STATUS, every field read from the slot at the same instant (R168). -/
def statusContent (n : Slot) (sec : Section) : StatusContent :=
  { slot := n
    state := sec.state
    number := sec.number
    balance := sec.balance
    cause := sec.cause
    restoreSerial := sec.restoreSerial
    restoreOutcome := sec.restoreOutcome }

/-- The frame of an entry, built from the state as it stands (R48, R51, R68, R168). A slot without a section gives
none; no entry names one (R65). -/
def State.buildFrame (s : State) (e : Entry) : Option Frame :=
  match e.kind with
  | .report p =>
      some (.countReport s.stationNumber (decide (e.cls ≤ 3)) (s.pointContent p)
        ((s.records.get p).last.map LastPassage.speed))
  | .answer requester n p tag => some (.settleAnswer s.stationNumber requester n tag (s.pointContent p))
  | .status n =>
      (s.sections.get n).map fun sec => .sectionStatus s.stationNumber (decide (e.cls ≤ 4)) (statusContent n sec)
  | .request n _ tag =>
      (s.sections.get n).map fun sec =>
        .settleRequest s.stationNumber n tag (sec.terms.filterMap s.remotePoint)

/-! ## Refreshing an unstarted frame -/

/-- A frame is rebuilt from current state; a SETTLE REQUEST never is (R70). -/
def State.rebuild (s : State) (lf : LayerFrame) : LayerFrame :=
  match lf.entry.kind, s.buildFrame lf.entry with
  | .request _ _ _, _ => lf
  | _, none => lf
  | _, some f => { lf with frame := f }

/-- A layer's frame rebuilt with the class this change gives its entry. -/
def State.refreshLayer (s : State) (concerns : EntryKind → Bool) (newClass : EntryKind → Nat → Nat)
    (layer : Option LayerFrame) : Option LayerFrame :=
  layer.map fun lf =>
    if concerns lf.entry.kind then
      s.rebuild { lf with entry := { lf.entry with cls := newClass lf.entry.kind lf.entry.cls } }
    else lf

/-- Every unstarted frame the change concerns is rebuilt in its layer: the next layer's, and the live layer's while
the transmitter is WAITING (R70). -/
def State.refresh (s : State) (concerns : EntryKind → Bool) (newClass : EntryKind → Nat → Nat) : State :=
  s.withTx
    { s.tx with
      next := s.refreshLayer concerns newClass s.tx.next
      live := if s.tx.state = .waiting then s.refreshLayer concerns newClass s.tx.live else s.tx.live }

/-- A COUNT REPORT rebuilt on a point change takes class 3 (R45, R70); an answer keeps its class. -/
def pointChangeClass : EntryKind → Nat → Nat
  | .report _, _ => 3
  | _, cls => cls

/-- A rebuilding that leaves the class (R49, R74, R76). -/
def sameClass : EntryKind → Nat → Nat := fun _ cls => cls

/-- A SECTION STATUS rebuilt on a change takes class 4 (R66, R70). -/
def statusChangeClass : EntryKind → Nat → Nat := fun _ _ => 4

/-- The live frame returns to WAITING and is refreshed at once from current state (R74, R76). -/
def State.returnToWaiting (s : State) : State :=
  s.withTx { s.tx with state := .waiting, live := s.tx.live.map s.rebuild }

/-! ## The pending list -/

/-- A new entry at the end of the pending list (R65). -/
def Transmitter.append (t : Transmitter) (kind : EntryKind) (cls : Nat) : Transmitter :=
  { t with
    entries := t.entries ++ [{ kind := kind, cls := cls, place := t.nextPlace }]
    nextPlace := t.nextPlace + 1 }

/-- The pending entries chosen by `which` take a class number no higher than `cls`, in their places (R44, R66). -/
def Transmitter.raise (t : Transmitter) (which : EntryKind → Bool) (cls : Nat) : Transmitter :=
  { t with entries := t.entries.map fun e => if which e.kind then { e with cls := min e.cls cls } else e }

/-- An entry chosen by `which` is pending. -/
def Transmitter.isPending (t : Transmitter) (which : EntryKind → Bool) : Bool :=
  t.entries.any fun e => which e.kind

/-- A layer holds a frame of an entry chosen by `which`. -/
def layerHolds (which : EntryKind → Bool) (layer : Option LayerFrame) : Bool :=
  match layer with
  | none => false
  | some lf => which lf.entry.kind

/-- A frame chosen by `which` is held unstarted in a layer (R70). -/
def Transmitter.holdsUnstarted (t : Transmitter) (which : EntryKind → Bool) : Bool :=
  layerHolds which t.next || (t.state = .waiting && layerHolds which t.live)

/-- Why a report or a status falls due (R42, R43, R66). -/
inductive DueCause where
  | change
  | periodic
  deriving DecidableEq, Repr

/-- A due report or status is held: by its pending entry, which a change raises in its place; else by its unstarted
frame; else by a new entry (R44, R45, R46, R66). -/
def Transmitter.hold (t : Transmitter) (which : EntryKind → Bool) (kind : EntryKind) (changeClass periodicClass : Nat)
    (cause : DueCause) : Transmitter :=
  if t.isPending which then
    match cause with
    | .change => t.raise which changeClass
    | .periodic => t
  else if t.holdsUnstarted which then t
  else
    match cause with
    | .change => t.append kind changeClass
    | .periodic => t.append kind periodicClass

/-- A report of a point falls due (R44 to R46). -/
def Transmitter.reportDue (t : Transmitter) (p : PointIndex) (cause : DueCause) : Transmitter :=
  t.hold (EntryKind.isReport p) (.report p) 3 5 cause

/-- A status of a slot falls due (R66). -/
def Transmitter.statusDue (t : Transmitter) (n : Slot) (cause : DueCause) : Transmitter :=
  t.hold (EntryKind.isStatus n) (.status n) 4 6 cause

/-- A point change reaches the transmitter: in RUNNING it makes a class-3 report due (R43) and refreshes every
unstarted frame that carries the point (R45, R52). -/
def State.pointChangeDue (s : State) (p : PointIndex) : State :=
  if s.mode = .running then
    (s.withTx (s.tx.reportDue p .change)).refresh (EntryKind.carriesPoint p) pointChangeClass
  else s

/-- A section change reaches the transmitter: in RUNNING it makes a class-4 status due (R169) and refreshes an
unstarted status of the slot (R66). -/
def State.sectionChangeDue (s : State) (n : Slot) : State :=
  if s.mode = .running then
    (s.withTx (s.tx.statusDue n .change)).refresh (EntryKind.isStatus n) statusChangeClass
  else s

/-- The answers held: those in the pending list and one in the next layer (R65, R135). -/
def Transmitter.answersHeld (t : Transmitter) : Nat :=
  (t.entries.filter fun e => e.kind.isAnswer).length + (if layerHolds EntryKind.isAnswer t.next then 1 else 0)

/-- An answer falls due: it gives its tag to a pending entry of its key, is appended, or is dropped when the capacity
is taken (R135). -/
def Transmitter.answerDue (t : Transmitter) (requester : Station) (n : Slot) (p : PointIndex) (tag : Serial) :
    Transmitter :=
  let kind := EntryKind.answer requester n p tag
  if t.isPending kind.sameKey then
    { t with entries := t.entries.map fun e => if kind.sameKey e.kind then { e with kind := kind } else e }
  else if t.answersHeld < Config.answerCapacity then t.append kind 1
  else t

/-! ## Loading -/

/-- The earliest entry among those of the lowest class number; the list is in the order of places (R68). -/
def earliestLowest : List Entry → Option Entry
  | [] => none
  | e :: rest =>
    match earliestLowest rest with
    | none => some e
    | some f => if f.cls < e.cls then some f else some e

/-- The timer that the loading of an entry's frame restarts: a report's or a status's (R42, R170). -/
def Transmitter.restartTimer (t : Transmitter) : EntryKind → Transmitter
  | .report p => { t with reportTimers := t.reportTimers.set p .started }
  | .status n => { t with statusTimers := t.statusTimers.set n .started }
  | .request _ _ _ => t
  | .answer _ _ _ _ => t

/-- The next layer, empty, is loaded from the pending list (R68). -/
def State.loadNext (s : State) : State :=
  match earliestLowest s.tx.entries with
  | none => s
  | some e =>
    s.withTx
      (({ s.tx with
          entries := s.tx.entries.filter fun f => f ≠ e
          next := (s.buildFrame e).map fun f => { entry := e, frame := f } } : Transmitter).restartTimer e.kind)

/-! ## Preemption -/

/-- The round for which a request was made is still open (R67). Other entries have none. -/
def State.roundOpen (s : State) : EntryKind → Bool
  | .request n id _ =>
    match s.sections.get n with
    | none => false
    | some sec =>
      match sec.round with
      | none => false
      | some r => r.id == id
  | _ => true

/-- An entry put back at its place among entries in the order of places. -/
def insertByPlace (e : Entry) : List Entry → List Entry
  | [] => [e]
  | f :: rest => if e.place < f.place then e :: f :: rest else f :: insertByPlace e rest

/-- A returning entry becomes one with the pending entry of its kind and key: the earlier place, the lower class
number, and what the pending one holds (R67). -/
def mergeEntries (returning waiting : Entry) : Entry :=
  { kind := waiting.kind, cls := min returning.cls waiting.cls, place := min returning.place waiting.place }

/-- An entry returns from the next layer to the pending list (R67). -/
def Transmitter.takeBack (t : Transmitter) (e : Entry) : Transmitter :=
  match t.entries.find? fun f => e.kind.sameKey f.kind with
  | none => { t with entries := insertByPlace e t.entries }
  | some f => { t with entries := insertByPlace (mergeEntries e f) (t.entries.filter fun g => g ≠ f) }

/-- A pending entry is of a class number lower than that of the frame in the next layer (R71). -/
def Transmitter.preempts (t : Transmitter) (lf : LayerFrame) : Bool :=
  t.entries.any fun e => decide (e.cls < lf.entry.cls)

/-- The frame of the next layer gives way to an entry of a lower class number and the layer is loaded again (R71).
Nothing is loaded outside RUNNING (R68). -/
def State.preempt (s : State) : State :=
  match s.tx.next with
  | none => s
  | some lf =>
    if s.mode = .running ∧ s.tx.preempts lf then
      let emptied := { s.tx with next := none }
      (s.withTx (if s.roundOpen lf.entry.kind then emptied.takeBack lf.entry else emptied)).loadNext
    else s

end Sys2Proof.Machine
end

