-- ==== Sys2Proof/Machine/Sections.lean ====
section
/-! DEFINITION. What a section hands on (R128): its changes reach the pending list, the SECTION STATUS of the slot and
the CLEAR line. Every evaluation of a section goes through `State.applySection`. -/

namespace Sys2Proof.Machine

/-- State, balance, cause or restore record differ: one section change is handed on (R128, R151). -/
def sectionChanged (before after : Section) : Bool :=
  before.state ≠ after.state || before.balance ≠ after.balance || before.cause ≠ after.cause ||
    before.restoreSerial ≠ after.restoreSerial || before.restoreOutcome ≠ after.restoreOutcome

/-- The round that was open before the evaluation is open no more: it completed or was closed (R139, R140). -/
def roundEnded (before after : Section) : Bool :=
  match before.round with
  | none => false
  | some r => after.round.map Round.id ≠ some r.id

/-- The evaluation opened a round (R133). -/
def openedRound (before after : Section) : Option Round :=
  match after.round with
  | none => none
  | some r => if before.round.map Round.id = some r.id then none else some r

/-- A section change reaches the transmitter and the indication unit (R128, R166, R169). A line toggles only in
RUNNING (R166). -/
def State.handOn (s : State) (n : Slot) (state : SectionState) : State :=
  let reported := s.sectionChangeDue n
  reported.setLine n (if s.mode = .running then (s.lines.get n).drive state else .low)

/-- The request entry of a round that has ended leaves the pending list; a frame already in a layer stays (R134). -/
def Transmitter.dropRequest (t : Transmitter) (n : Slot) : Transmitter :=
  { t with entries := t.entries.filter fun e => !EntryKind.isRequest n e.kind }

/-- The round's place in the pending list after an evaluation: the request of an ended round is removed (R134), that
of an opened round appended with class 2, before the status of the same evaluation (R133). -/
def State.followRound (s : State) (n : Slot) (before after : Section) : State :=
  let dropped := if roundEnded before after then s.tx.dropRequest n else s.tx
  s.withTx
    (match openedRound before after with
      | none => dropped
      | some r => dropped.append (.request n r.id r.tag) 2)

/-- An evaluation of the section in a slot takes hold: the slot takes the section, its round is followed in the pending
list, and a change is handed on. A slot not in use is left alone (R105). -/
def State.applySection (s : State) (n : Slot) (evaluation : Section → Section) : State :=
  match s.sections.get n with
  | none => s
  | some sec =>
    let after := evaluation sec
    let followed := (s.setSection n after).followRound n sec after
    if sectionChanged sec after then followed.handOn n after.state else followed

/-- A section without a term on the source is not reached (R108). -/
def State.reachSection (s : State) (n : Slot) (notice : Option DisturbanceCause) (src : TermSource) : State :=
  s.applySection n fun sec => if sec.uses src then s.evaluateSection notice src sec else sec

/-- A mirror notification reaches every in-use section with a term on the entry (R100), in ascending order of slot. -/
def State.notifySections (s : State) (notice : Option DisturbanceCause) (m : EntryIndex) : State :=
  allSlots.foldl (fun t n => t.reachSection n notice (.mirror m)) s

end Sys2Proof.Machine
end

