-- ==== Sys2Proof/Machine/Mirror.lean ====
section
/-! DEFINITION. The mirror table (05, section 5.4): how an entry takes a frame for its point, and what it tells the
sections. -/

namespace Sys2Proof.Machine

/-- The fields an entry takes from a frame (R95). -/
def PointContent.view (c : PointContent) : MirrorView :=
  { nAB := c.nAB, nBA := c.nBA, head := c.head, condition := c.condition, serial := c.serial, start := c.start }

/-- What a FRESH entry makes of a frame: a restart first (R96), then a jump (R97), else an ordinary update (R98). -/
def MirrorView.judge (v : MirrorView) (c : PointContent) : Option DisturbanceCause :=
  if c.start && !v.start then some .restart
  else if Config.jumpLimit < countDelta c.nAB v.nAB ∨ Config.jumpLimit < countDelta c.nBA v.nBA then some .jump
  else none

/-- The age timer has run its 800 ms, so that its expiry falls due at this instant (R99). -/
def MirrorEntry.expiryDue (e : MirrorEntry) : Bool := e.age.running && decide (Config.ageTime ≤ e.age.elapsed)

/-- The entry after it took a frame: every field, FRESH, the age timer from the beginning (R94). An expiry that falls due
at the same instant does not take place after that (R99, log 34). -/
def MirrorEntry.accept (e : MirrorEntry) (c : PointContent) : MirrorEntry :=
  { e with hold := .fresh c.view, age := .started, overtaken := e.overtaken || e.expiryDue }

/-- The entry that names this station and point; the configuration has at most one (R178, check 8). -/
def State.entryFor (s : State) (station : Station) (p : PointIndex) : Option EntryIndex :=
  allEntries.find? fun m =>
    match s.mirror.get m with
    | none => false
    | some e => e.station == station && e.point == p

/-- A frame's counts are presented to the entry of its point, if one is configured (R90, R94): an UNHEARD or STALE
entry takes them without a notification (R95), a FRESH one notifies RESTART, JUMP or UPDATE (R96 to R98). -/
def State.presentAt (s : State) (m : EntryIndex) (c : PointContent) : State :=
  match s.mirror.get m with
  | none => s
  | some e =>
    let taken := s.setMirror m (e.accept c)
    match e.hold with
    | .unheard => taken
    | .stale _ => taken
    | .fresh v => taken.notifySections (v.judge c) m

/-- See `State.presentAt`. -/
def State.present (s : State) (source : Station) (c : PointContent) : State :=
  match s.entryFor source c.point with
  | none => s
  | some m => s.presentAt m c

/-- The mark an answer carries to the settlement logic: its counts are an ordinary update of a FRESH entry (R92,
R98). -/
def State.ordinaryUpdate (s : State) (source : Station) (c : PointContent) : Bool :=
  match s.entryFor source c.point with
  | none => false
  | some m =>
    match s.mirror.get m with
    | none => false
    | some e =>
      match e.hold with
      | .unheard => false
      | .stale _ => false
      | .fresh v => v.judge c = none

/-- The entry at the expiry of its age timer (R99). -/
def MirrorEntry.expire (e : MirrorEntry) : MirrorEntry :=
  match e.hold with
  | .fresh v => { e with hold := .stale v, age := .stopped }
  | .unheard => e
  | .stale _ => e

end Sys2Proof.Machine
end

