-- ==== Sys2Proof/Machine/Timers.lean ====
section
/-! DEFINITION. The timer commands. An expiry is taken whenever its timer runs: the command is the sender's word that
the time has come (log 2); an age expiry that a frame of the same instant has overtaken is not (log 34). -/

namespace Sys2Proof.Machine

/-- A timer after an expiry that made a periodic cause due: from the beginning where an unstarted frame takes up the
cause, else stopped until the next load (R42, R170). -/
def timerAfterExpiry (taken : Bool) : Timer := if taken then .started else .stopped

/-- The report timer of a point expires (R42). -/
def Transmitter.expireReport (t : Transmitter) (p : PointIndex) : Transmitter :=
  ({ t with
      reportTimers :=
        t.reportTimers.set p (timerAfterExpiry (t.holdsUnstarted (EntryKind.isReport p))) } : Transmitter).reportDue p
    .periodic

/-- The status timer of a slot expires (R170). -/
def Transmitter.expireStatus (t : Transmitter) (n : Slot) : Transmitter :=
  ({ t with
      statusTimers :=
        t.statusTimers.set n (timerAfterExpiry (t.holdsUnstarted (EntryKind.isStatus n))) } : Transmitter).statusDue n
    .periodic

/-- REPORT_TIMER_EXPIRY (R42, R44 to R46). -/
def execReportTimerExpiry (p : PointIndex) (s : State) : Host.Outcome State Fault Refusal :=
  .next
    (if s.mode = .running ∧ (s.tx.reportTimers.get p).running then (s.withTx (s.tx.expireReport p)).preempt else s)

/-- STATUS_TIMER_EXPIRY (R66, R170). -/
def execStatusTimerExpiry (n : Slot) (s : State) : Host.Outcome State Fault Refusal :=
  .next
    (if s.mode = .running ∧ (s.tx.statusTimers.get n).running then (s.withTx (s.tx.expireStatus n)).preempt else s)

/-- A FRESH entry becomes STALE and its sections are notified (R99). -/
def State.expireAge (s : State) (m : EntryIndex) (e : MirrorEntry) : State :=
  match e.hold with
  | .fresh _ => ((s.setMirror m e.expire).notifySections (some .stale) m).preempt.driveAttn
  | .unheard => s
  | .stale _ => s

/-- An overtaken expiry is past, and nothing else changes (R99, log 34). -/
def MirrorEntry.passOver (e : MirrorEntry) : MirrorEntry := { e with overtaken := false }

/-- AGE_TIMER_EXPIRY (R99, R117). An expiry that a frame of the same instant has overtaken does not take place
(log 34). -/
def execAgeTimerExpiry (m : EntryIndex) (s : State) : Host.Outcome State Fault Refusal :=
  .next
    (match s.mirror.get m with
      | none => s
      | some e =>
        if s.mode.listens ∧ e.age.running then
          if e.overtaken then s.setMirror m e.passOver else s.expireAge m e
        else s)

/-- The deadline of the round of a section is running. -/
def Section.deadlineRunning (sec : Section) : Bool :=
  match sec.round with
  | none => false
  | some r => r.deadline.running

/-- DEADLINE_EXPIRY (R143). -/
def execDeadlineExpiry (n : Slot) (s : State) : Host.Outcome State Fault Refusal :=
  .next
    (match s.sections.get n with
      | none => s
      | some sec =>
        if s.mode = .running ∧ sec.deadlineRunning then
          (s.applySection n Section.expireDeadline).preempt.driveAttn
        else s)

/-- HOLD_OFF_EXPIRY (R124, R144). -/
def execHoldOffExpiry (n : Slot) (s : State) : Host.Outcome State Fault Refusal :=
  .next
    (match s.sections.get n with
      | none => s
      | some sec =>
        if s.mode = .running ∧ sec.holdOff.running then (s.applySection n s.expireHoldOff).preempt.driveAttn else s)

end Sys2Proof.Machine
end

