-- ==== Sys2Proof/Machine/Clock.lean ====
section
/-! DEFINITION. The part's own doings on an empty queue (log 1). What the transmitter does at once is put on the queue as
its own command. Else one step is one microsecond, one bit time of a recessive line: running timers advance, the idle
count and the clock of the configuration read grow, and what falls due is put on the queue as its own command. -/

namespace Sys2Proof.Machine

/-- A section's timers after one microsecond. -/
def Section.tick (sec : Section) : Section :=
  { sec with
    holdOff := sec.holdOff.tick Config.holdOffTime
    round := sec.round.map fun r => { r with deadline := r.deadline.tick Config.deadlineTime } }

/-- A mirror entry after one microsecond: its age timer runs on, and the instant of an overtaken expiry is past
(log 34). -/
def MirrorEntry.tick (e : MirrorEntry) : MirrorEntry := { e with age := e.age.tick Config.ageTime, overtaken := false }

/-- The transmitter's timers after one microsecond. -/
def Transmitter.tick (t : Transmitter) : Transmitter :=
  { t with
    reportTimers := t.reportTimers.map (Timer.tick Config.reportTime)
    statusTimers := t.statusTimers.map (Timer.tick Config.statusTime) }

/-- The transmitter is putting a frame on the line, which is then not recessive for long enough to be idle: no stretch
of a frame without a 0 is 12 bit times long (R59, R60, R72). -/
def Transmitter.onLine (t : Transmitter) : Bool := t.state = .arbitrating || t.state = .sending

/-- The receiver observes the line outside a character while the part itself sends nothing, so a recessive bit time
counts (R60). -/
def State.countsIdle (s : State) : Bool := s.mode.listens && !s.rx.inCharacter && !s.tx.onLine

/-- The receiver after one recessive bit time; the twelfth is counted by IDLE_COMPLETION itself (R60). -/
def State.idleTick (s : State) : Receiver :=
  if s.countsIdle && decide (s.rx.idleCount + 1 < Config.idleBits) then
    { s.rx with idleCount := s.rx.idleCount + 1 }
  else s.rx

/-- The clock periods of a read in progress after one microsecond, which is one period (R176). -/
def State.cfgTick (s : State) : Nat := if s.cfgSelectLow then min (s.cfgClock + 1) Config.readPeriods else s.cfgClock

/-- A mirror entry's age timer reaches 800 ms. -/
def State.ageDue (s : State) (m : EntryIndex) : Bool :=
  match s.mirror.get m with
  | none => false
  | some e => e.age.due Config.ageTime

/-- The deadline of a slot's round reaches 300 ms. -/
def State.deadlineDue (s : State) (n : Slot) : Bool :=
  match s.sections.get n with
  | none => false
  | some sec =>
    match sec.round with
    | none => false
    | some r => r.deadline.due Config.deadlineTime

/-- The hold-off of a slot reaches 100 ms. -/
def State.holdOffDue (s : State) (n : Slot) : Bool :=
  match s.sections.get n with
  | none => false
  | some sec => sec.holdOff.due Config.holdOffTime

/-- A command where its event falls due. -/
def whenDue (due : Bool) (c : Instr) : List Instr := if due then [c] else []

/-- The commands of what falls due in this microsecond. The spec fixes no order among events of one microsecond (R42,
R99, R143, R170). DESIGN CHOICE (log 30): LOADING timer, LISTENING timer, report timers, status timers, age timers,
deadlines, hold-offs, each kind in ascending order, and the idle completion last. -/
def State.dueCommands (s : State) : List Instr :=
  whenDue (s.loadingTimer.due Config.loadingTime) .loadingTimerExpiry ++
    whenDue (s.listeningTimer.due Config.listeningTime) .listeningTimerExpiry ++
    allPoints.flatMap (fun p => whenDue ((s.tx.reportTimers.get p).due Config.reportTime) (.reportTimerExpiry p)) ++
    allSlots.flatMap (fun n => whenDue ((s.tx.statusTimers.get n).due Config.statusTime) (.statusTimerExpiry n)) ++
    allEntries.flatMap (fun m => whenDue (s.ageDue m) (.ageTimerExpiry m)) ++
    allSlots.flatMap (fun n => whenDue (s.deadlineDue n) (.deadlineExpiry n)) ++
    allSlots.flatMap (fun n => whenDue (s.holdOffDue n) (.holdOffExpiry n)) ++
    whenDue (s.countsIdle && decide (Config.idleBits ≤ s.rx.idleCount + 1)) .idleCompletion

/-- One microsecond passes on an empty queue. -/
def State.tick (s : State) : State :=
  { s with
    pending := s.pending ++ s.dueCommands
    cfgClock := s.cfgTick
    loadingTimer := s.loadingTimer.tick Config.loadingTime
    listeningTimer := s.listeningTimer.tick Config.listeningTime
    tx := s.tx.tick
    rx := s.idleTick
    mirror := s.mirror.map fun e => e.map MirrorEntry.tick
    sections := s.sections.map fun sec => sec.map Section.tick }

/-- What the transmitter does at once, before any time passes: a move into an empty live layer (R69), else a load of an
empty next layer (R68). -/
def State.atOnce (s : State) : Option Instr :=
  if s.mode = .running then
    if s.tx.live = none ∧ s.tx.next.isSome ∧ s.tx.state = .quiet then some .liveLayerMove
    else if s.tx.next = none ∧ s.tx.entries ≠ [] then some .nextLayerLoad
    else none
  else none

/-- A step on an empty queue: what the transmitter does at once is put on the queue; where there is nothing of the
kind, a microsecond passes. -/
def State.idleStep (s : State) : State :=
  match s.atOnce with
  | some c => { s with pending := s.pending ++ [c] }
  | none => s.tick

end Sys2Proof.Machine
end

