-- ==== Sys2Proof/Machine/Halt.lean ====
section
/-! DEFINITION. Reset and the entry to HALTED (R182, R183): what every block does at them. -/

namespace Sys2Proof.Machine

/-- Every block takes its reset values (R183). The queue of commands and the count of free values drawn are the
model's own and are kept (log 10, log 25). -/
def State.toReset (s : State) : State :=
  { State.reset with pending := s.pending, draws := s.draws }

/-- A section at the entry to HALTED: DISTURBED with cause HALT unless it is DISTURBED already, and its change handed
on. Its request entry stays in the pending list (R118, R134, R171). -/
def State.haltSection (s : State) (n : Slot) : State :=
  match s.sections.get n with
  | none => s
  | some sec =>
    let after := sec.disturb .halt
    if sectionChanged sec after then (s.setSection n after).handOn n after.state else s

/-- The answer that a layer holds, if it holds one (R136). -/
def heldAnswer (layer : Option LayerFrame) : Option LayerFrame := layer.filter fun lf => lf.entry.kind.isAnswer

/-- The transmitter at the entry to HALTED: it finishes a frame that is SENDING and stops otherwise; every unstarted
frame is dropped, the pending list keeps its entries, the timers stop (R42, R79, R170). An answer in a layer that is not
SENDING stays there unsent (R136, log 32). -/
def Transmitter.halt (t : Transmitter) : Transmitter :=
  let sending := t.state = .sending
  { t with
    state := if sending then .sending else if t.state = .mute then .mute else .quiet
    live := if sending then t.live else none
    next := none
    keptLive := if sending then none else heldAnswer t.live
    keptNext := heldAnswer t.next
    reportTimers := t.reportTimers.map Timer.halt
    statusTimers := t.statusTimers.map Timer.halt }

/-- The receiver at the entry to HALTED: the frame being assembled, the FIFO and the handling are lost (R102). -/
def Receiver.halt (r : Receiver) : Receiver :=
  { r with assembling := false, buffer := [], inCharacter := false, fifo := [], handling := none, sent := none }

/-- A mirror entry at the entry to HALTED keeps everything, its age timer stopped where it stands (R102). -/
def MirrorEntry.halt (e : MirrorEntry) : MirrorEntry := { e with age := e.age.halt }

/-- The rest of the part at the entry to HALTED, once the sections have taken HALT (R182). -/
def State.stopBlocks (s : State) (cause : HaltCause) : State :=
  { s with
    mode := .halted
    cause := some cause
    cfgSelectLow := false
    cfgClock := 0
    loadingTimer := .stopped
    listeningTimer := .stopped
    tx := s.tx.halt
    rx := s.rx.halt
    mirror := s.mirror.map fun e => e.map MirrorEntry.halt
    lines := .const 8 .low }

/-- The entry to HALTED. A request that finds the part HALTED changes nothing (R182). -/
def State.enterHalted (s : State) (cause : HaltCause) : State :=
  if s.mode = .halted then s else (allSlots.foldl State.haltSection s).stopBlocks cause

end Sys2Proof.Machine
end

