-- ==== Sys2Proof/Machine/Receive.lean ====
section
/-! DEFINITION. The receiver's commands (05, sections 5.1 to 5.3): start bits, characters, discards, the CRC test, the
own-frame and clash tests, and the receive FIFO. -/

namespace Sys2Proof.Machine

/-! ## Shared operations -/

/-- The frame being assembled is discarded: HUNTING with the buffer empty (R82 to R84). -/
def Receiver.discard (r : Receiver) : Receiver := { r with assembling := false, buffer := [] }

/-- A free handler takes the oldest frame of the FIFO (R87). -/
def Receiver.takeUp (r : Receiver) : Receiver :=
  match r.handling, r.fifo with
  | none, oldest :: rest => { r with handling := some oldest, fifo := rest }
  | _, _ => r

/-- A complete, good frame of another station enters the FIFO, or is an overrun (R87). -/
def Receiver.enqueue (r : Receiver) (bytes : List Byte) : Receiver :=
  if r.fifo.length < Config.fifoCapacity then ({ r with fifo := r.fifo ++ [bytes] } : Receiver).takeUp else r

/-- The transmitter is SENDING this very frame (R85). -/
def Transmitter.isSending (t : Transmitter) (bytes : List Byte) : Bool :=
  t.state = .sending &&
    match t.live with
    | none => false
    | some lf => lf.frame.encode == bytes

/-- The frame is the part's own: the transmitter was SENDING it at its last stop bit, be its completion taken before or
after the receiver's (R85). -/
def State.ownFrame (s : State) (bytes : List Byte) : Bool :=
  s.tx.isSending bytes || s.rx.sent == some bytes

/-- A frame that has its full length is judged: the CRC (R84), then own frame (R85), clash (R86), FIFO (R87). In every
case the receiver is HUNTING after it. -/
def State.judgeFrame (s : State) (bytes : List Byte) : State :=
  let hunting := s.withRx { s.rx.discard with sent := none }
  if crc bytes ≠ 0#16 then hunting
  else if s.station = some (sourceOf bytes) then
    if s.ownFrame bytes then hunting else (hunting.enterHalted .clash).driveAttn
  else hunting.withRx (hunting.rx.enqueue bytes)

/-- A length byte of 3 to 9 fixes the length of the frame; any other is a bad length (R83). -/
def goodLength (b : Byte) : Bool := decide (3 ≤ b.toNat) && decide (b.toNat ≤ 9)

/-- The length that the length byte in the buffer fixes (R83). -/
def frameLength : List Byte → Option Nat
  | _ :: l :: _ => some (l.toNat + 4)
  | _ => none

/-- The character now ending is the length byte. -/
def Receiver.atLength (r : Receiver) : Bool := r.assembling && r.inCharacter && decide (r.buffer.length = 1)

/-- This byte gives the buffer the length its length byte fixed. -/
def Receiver.completes (r : Receiver) (b : Byte) : Bool :=
  r.assembling && r.inCharacter && decide (2 ≤ r.buffer.length) &&
    frameLength (r.buffer ++ [b]) = some (r.buffer.length + 1)

/-- The receiver at the stop bit of a correctly framed character: the byte is appended while ASSEMBLING, passed over
while HUNTING, and the idle count is 0 (R60, R81, R82). -/
def Receiver.takeByte (r : Receiver) (b : Byte) : Receiver :=
  { r with buffer := if r.assembling then r.buffer ++ [b] else r.buffer, inCharacter := false, idleCount := 0 }

/-- A correctly framed character ends (R82, R83, R84). -/
def State.takeCharacter (s : State) (b : Byte) : State :=
  let taken := s.withRx (s.rx.takeByte b)
  if s.rx.atLength ∧ goodLength b = false then taken.withRx taken.rx.discard
  else if s.rx.completes b then taken.judgeFrame taken.rx.buffer
  else taken

/-- A start bit has been sampled: its value, the line's idleness as it stood at its first dominant sample (R81, R82). -/
def Receiver.takeStart (r : Receiver) (one : Bool) : Receiver :=
  let seen : Receiver := { r with idleCount := 0, sent := none }
  if one then (if r.assembling then seen.discard else seen)
  else if r.assembling then { seen with inCharacter := true }
  else if r.idleCount = Config.idleBits then { seen with assembling := true, buffer := [], inCharacter := true }
  else { seen with inCharacter := true }

/-- A framing error at the receiver: the frame is discarded and the idle count is 0 (R82). -/
def Receiver.framingError (r : Receiver) : Receiver :=
  { r.discard with inCharacter := false, idleCount := 0, sent := none }

/-! ## The commands -/

/-- START_BIT (R57, R58, R60, R81, R82): a dominant level of at least two samples, outside a character. -/
def execStartBit (dominantSamples : Nat) (samples : BitSamples) (s : State) : Host.Outcome State Fault Refusal :=
  .next
    (if s.mode.listens ∧ s.rx.inCharacter = false ∧ 2 ≤ dominantSamples then
      s.withRx (s.rx.takeStart (bitValue samples))
    else s)

/-- CHARACTER_COMPLETE (R82). Where its byte is a bad length or completes the frame, what R83 or R84 says follows at the
same stop bit. DESIGN CHOICE (log 31): while HUNTING it also ends the timing of a passed-over character whose stop bit
reads 0, for which the spec names no event. -/
def execCharacterComplete (data : List BitSamples) (s : State) : Host.Outcome State Fault Refusal :=
  .next (if s.mode.listens ∧ s.rx.inCharacter then s.takeCharacter (byteOfData data) else s)

/-- FRAMING_ERROR (R82): a start bit read as 1, or a stop bit read as 0, in a character of the frame being assembled.
DESIGN CHOICE (log 31): while HUNTING it has no effect; a passed-over character with a stop bit of 0 ends by
CHARACTER_COMPLETE. -/
def execFramingError (bit : FramedBit) (samples : BitSamples) (s : State) : Host.Outcome State Fault Refusal :=
  .next
    (match bit with
      | .start =>
        if s.mode.listens ∧ s.rx.assembling ∧ s.rx.inCharacter = false ∧ bitValue samples then
          s.withRx s.rx.framingError
        else s
      | .stop =>
        if s.mode.listens ∧ s.rx.assembling ∧ s.rx.inCharacter ∧ bitValue samples = false then
          s.withRx s.rx.framingError
        else s)

/-- BAD_LENGTH (R83): the character whose byte is a bad length byte. -/
def execBadLength (data : List BitSamples) (s : State) : Host.Outcome State Fault Refusal :=
  .next
    (if s.mode.listens ∧ s.rx.atLength ∧ goodLength (byteOfData data) = false then
      s.takeCharacter (byteOfData data)
    else s)

/-- RECEIVER_FRAME_COMPLETE (R84 to R87): the character that completes the frame. -/
def execReceiverFrameComplete (data : List BitSamples) (s : State) : Host.Outcome State Fault Refusal :=
  .next
    (if s.mode.listens ∧ s.rx.completes (byteOfData data) then s.takeCharacter (byteOfData data) else s)

end Sys2Proof.Machine
end

