-- ==== Sys2Proof/Machine/Handle.lean ====
section
/-! DEFINITION. The frame handler's commands (05, section 5.3; 07; 08): what the end of a handling does, by kind and by
the part mode at that event (R88, R90). The frame is the one in `rx.handling`. -/

namespace Sys2Proof.Machine

/-! ## Shared operations -/

/-- The handler is free again and takes the oldest waiting frame (R87). -/
def State.finishHandling (s : State) : State :=
  s.withRx ({ s.rx with handling := none } : Receiver).takeUp

/-- A handling of a frame of one of these classes ends: its effect by R89 and R90 takes hold, then the handler is
free. An invalid frame has none (R89). -/
def State.endHandling (s : State) (ofClass : Nat → Bool) (effect : Received → State → State) : State :=
  match s.rx.handling with
  | none => s
  | some bytes =>
    if s.mode.listens ∧ ofClass (classOf bytes) then
      match parseFrame bytes with
      | none => s.finishHandling
      | some f => (effect f s).finishHandling.preempt.driveAttn
    else s

/-- A COUNT REPORT is presented to the mirror entry of its point, in LISTENING and RUNNING alike (R90, R94). -/
def handleCountReport (f : Received) (s : State) : State :=
  match f with
  | .countReport source c => s.present source c
  | _ => s

/-- The settlement logic takes an answer for the slot (R137 to R139). -/
def State.answerRound (s : State) (n : Slot) (tag : Serial) (source : Station) (p : PointIndex) (mark : Bool) : State :=
  s.applySection n (s.takeAnswer tag source p mark)

/-- A SETTLE ANSWER: its counts to the mirror, then in RUNNING to the settlement logic if this station is the requester
(R92). -/
def handleSettleAnswer (f : Received) (s : State) : State :=
  match f with
  | .settleAnswer source requester n tag c =>
    let taken := s.present source c
    if s.mode = .running ∧ s.station = some requester then
      taken.answerRound n tag source c.point (s.ordinaryUpdate source c)
    else taken
  | _ => s

/-- One point byte of a SETTLE REQUEST: an answer falls due for an in-use point of this station (R91). -/
def answerPoint (requester : Station) (n : Slot) (tag : Serial) (s : State) (p : Station × PointIndex) : State :=
  if s.station = some p.1 ∧ s.pointInUse p.2 then s.withTx (s.tx.answerDue requester n p.2 tag) else s

/-- A SETTLE REQUEST in RUNNING, read point by point (R91); ignored in LISTENING (R90). -/
def handleSettleRequest (f : Received) (s : State) : State :=
  match f with
  | .settleRequest source n tag points =>
    if s.mode = .running then points.foldl (answerPoint source n tag) s else s
  | _ => s

/-- A RESTORE COMMAND for this station in RUNNING is taken through the tests of R152; else it is ignored (R93). A slot
not in use is left alone (R153). -/
def handleRestoreCommand (f : Received) (s : State) : State :=
  match f with
  | .restoreCommand source target n direct serial =>
    if s.mode = .running ∧ s.station = some target ∧ s.authorized source then
      s.applySection n (s.takeRestore direct serial)
    else s
  | _ => s

/-! ## The commands -/

/-- COUNT_REPORT (R90, R94 to R100). Classes 3 and 5 are taken alike (R63). -/
def execCountReport (s : State) : Host.Outcome State Fault Refusal :=
  .next (s.endHandling (fun c => c == 3 || c == 5) handleCountReport)

/-- SETTLE_ANSWER (R92). -/
def execSettleAnswer (s : State) : Host.Outcome State Fault Refusal :=
  .next (s.endHandling (fun c => c == 1) handleSettleAnswer)

/-- SETTLE_REQUEST (R91, R135). -/
def execSettleRequest (s : State) : Host.Outcome State Fault Refusal :=
  .next (s.endHandling (fun c => c == 2) handleSettleRequest)

/-- SECTION_STATUS (R90): ignored in every mode; the handler becomes free. -/
def execSectionStatus (s : State) : Host.Outcome State Fault Refusal :=
  .next (s.endHandling (fun c => c == 4 || c == 6) fun _ t => t)

/-- RESTORE_COMMAND (R93, R152 to R162). -/
def execRestoreCommand (s : State) : Host.Outcome State Fault Refusal :=
  .next (s.endHandling (fun c => c == 0) handleRestoreCommand)

/-- CLASS_7_FRAME_HANDLED (R89): discarded without effect; the handler becomes free. -/
def execClass7FrameHandled (s : State) : Host.Outcome State Fault Refusal :=
  .next (s.endHandling (fun c => c == 7) fun _ t => t)

end Sys2Proof.Machine
end

