-- ==== Sys2Proof/Machine/Image.lean ====
section
/-! DEFINITION. The configuration image (10, section 10.2): its fields, the ten ordered checks of R178 with the range
check of R177, and what it hands to the blocks when all pass. -/

namespace Sys2Proof.Machine

/-! ## Asking for the image -/

/-- What the controller sends the configuration memory before it takes the 256 bytes: the read instruction 03h and the
start address 00h, most significant bit first (R176). -/
def readRequest : List Bool := byteBits 0x03#8 ++ byteBits 0x00#8

/-- The bit that the controller drives on CFG_DATA: during a read the bit of the read request in the clock period now
running, and none, the line released, in every later period and outside a read (R176). The levels of CFG_CLK within a
period are no events of the table (log 17). -/
def State.cfgData (s : State) : Option Bool := if s.cfgSelectLow then readRequest[s.cfgClock]? else none

/-! ## Reading the image -/

/-- Byte `i` of the image; 0 beyond its end. -/
def imageByte (image : List Byte) (i : Nat) : Byte := image.getD i 0

/-- Byte `i` as a number. -/
def imageNat (image : List Byte) (i : Nat) : Nat := (imageByte image i).toNat

/-- The two-byte number at `i`, more significant byte first. -/
def imageWord (image : List Byte) (i : Nat) : Nat := (wordOf (imageByte image i) (imageByte image (i + 1))).toNat

/-- Where the record of a point begins. -/
def pointBase (p : PointIndex) : Nat := 16 + 12 * p.val

/-- Where the record of a mirror entry begins. -/
def mirrorBase (m : EntryIndex) : Nat := 64 + 2 * m.val

/-- Where the record of a slot begins. -/
def sectionBase (n : Slot) : Nat := 96 + 9 * n.val

/-- The in-use flag of a point record is 01h. -/
def imagePointInUse (image : List Byte) (p : PointIndex) : Bool := imageNat image (pointBase p) == 1

/-- The in-use flag of a section record is 01h. -/
def imageSlotInUse (image : List Byte) (n : Slot) : Bool := imageNat image (sectionBase n) == 1

/-- The station of a mirror record; 0 gives no entry. -/
def imageMirrorStation (image : List Byte) (m : EntryIndex) : Nat := imageNat image (mirrorBase m)

/-- The point of a mirror record. -/
def imageMirrorPoint (image : List Byte) (m : EntryIndex) : Nat := imageNat image (mirrorBase m + 1)

/-- The term count of a section record. -/
def imageTermCount (image : List Byte) (n : Slot) : Nat := imageNat image (sectionBase n + 4)

/-- The term bytes within the term count, in term order. -/
def imageTermBytes (image : List Byte) (n : Slot) : List Byte :=
  ([5, 6, 7, 8].map fun i => imageByte image (sectionBase n + i)).take (imageTermCount image n)

/-- Bit 7 of a term byte: the source kind is mirror. -/
def termIsMirror (t : Byte) : Bool := t.getLsbD 7

/-- Bits 3 to 0 of a term byte: the index. -/
def termIndex (t : Byte) : BitVec 4 := t.extractLsb' 0 4

/-- The mirror place a mirror term names. -/
def termEntry (t : Byte) : EntryIndex := (termIndex t).toFin

/-- The local point a local term names, once its index is known to be 0 to 3. -/
def termPoint (t : Byte) : PointIndex := (t.extractLsb' 0 2).toFin

/-! ## The range check (R177) -/

/-- `v` lies in `low` to `high`. -/
def within (low high v : Nat) : Bool := decide (low ≤ v) && decide (v ≤ high)

/-- The header and part-wide bytes lie in their ranges. -/
def headerInRange (image : List Byte) : Bool :=
  within 2 8 (imageNat image 4) && within 1 50 (imageNat image 5) && within 0 31 (imageNat image 7) &&
    within 0 31 (imageNat image 8)

/-- A point record lies in its ranges, whether the point is in use or not. -/
def pointInRange (image : List Byte) (p : PointIndex) : Bool :=
  let base := pointBase p
  within 0 1 (imageNat image base) && within 60 250 (imageNat image (base + 1)) &&
    within 100 500 (imageWord image (base + 2)) && within 25 999 (imageWord image (base + 4)) &&
    within 25 999 (imageWord image (base + 6)) && within 25 999 (imageWord image (base + 8)) &&
    within 25 999 (imageWord image (base + 10))

/-- A mirror record lies in its ranges, whether its station is 0 or not. -/
def mirrorInRange (image : List Byte) (m : EntryIndex) : Bool :=
  within 0 31 (imageMirrorStation image m) && within 0 3 (imageMirrorPoint image m)

/-- A section record lies in its ranges. Of one whose flag is 00h nothing more is examined. -/
def sectionInRange (image : List Byte) (n : Slot) : Bool :=
  let base := sectionBase n
  within 0 1 (imageNat image base) &&
    (!imageSlotInUse image n ||
      (within 0 1 (imageNat image (base + 1)) && within 0 4095 (imageWord image (base + 2)) &&
        (imageTermBytes image n).all fun t => termIsMirror t || within 0 3 (termIndex t).toNat))

/-- Check 4: every field lies in its range. -/
def imageInRange (image : List Byte) : Bool :=
  headerInRange image && allPoints.all (pointInRange image) && allEntries.all (mirrorInRange image) &&
    allSlots.all (sectionInRange image)

/-! ## The other checks (R178) -/

/-- Check 5: a section in use has 1 to 4 terms. -/
def termCountGood (image : List Byte) (n : Slot) : Bool :=
  !imageSlotInUse image n || within 1 4 (imageTermCount image n)

/-- Check 6: a local term of a section in use names a point in use. -/
def localTermsGood (image : List Byte) (n : Slot) : Bool :=
  !imageSlotInUse image n ||
    (imageTermBytes image n).all fun t => termIsMirror t || imagePointInUse image (termPoint t)

/-- Check 7: a mirror term of a section in use names a mirror record whose station is not 0. -/
def mirrorTermsGood (image : List Byte) (n : Slot) : Bool :=
  !imageSlotInUse image n ||
    (imageTermBytes image n).all fun t => !termIsMirror t || imageMirrorStation image (termEntry t) != 0

/-- Check 8, for one mirror record: it names neither this station nor a point that another record names. -/
def mirrorDistinct (image : List Byte) (station : Station) (m : EntryIndex) : Bool :=
  imageMirrorStation image m == 0 ||
    (imageMirrorStation image m != station.toNat &&
      allEntries.all fun k =>
        k == m || imageMirrorStation image k != imageMirrorStation image m ||
          imageMirrorPoint image k != imageMirrorPoint image m)

/-- Check 9: TR − TD is at least 16 on both channels. -/
def hysteresisGood (image : List Byte) (p : PointIndex) : Bool :=
  let base := pointBase p
  decide (imageWord image (base + 4) + 16 ≤ imageWord image (base + 6)) &&
    decide (imageWord image (base + 8) + 16 ≤ imageWord image (base + 10))

/-- The ten checks in their order. -/
def imageChecks (station : Station) (image : List Byte) : List Bool :=
  [ imageWord image 0 == 0x4F7A,
    imageNat image 2 == 1,
    imageNat image 3 == station.toNat,
    imageInRange image,
    allSlots.all (termCountGood image),
    allSlots.all (localTermsGood image),
    allSlots.all (mirrorTermsGood image),
    allEntries.all (mirrorDistinct image station),
    allPoints.all (hysteresisGood image),
    crc image == 0#16 ]

/-- The image passes every check (R178). -/
def imageGood (station : Station) (image : List Byte) : Bool := (imageChecks station image).all id

/-! ## What a good image hands on (R178) -/

/-- The configuration of a point, absent where its in-use flag is clear (R13, R37). -/
def imagePoint (image : List Byte) (p : PointIndex) : Option PointConfig :=
  if imagePointInUse image p then
    let base := pointBase p
    some
      { spacing := imageNat image (base + 1)
        vmax := imageWord image (base + 2)
        tdA := imageWord image (base + 4)
        trA := imageWord image (base + 6)
        tdB := imageWord image (base + 8)
        trB := imageWord image (base + 10) }
  else none

/-- A mirror entry, UNHEARD with its age timer stopped (R94); none for a record whose station is 0. -/
def imageEntry (image : List Byte) (m : EntryIndex) : Option MirrorEntry :=
  if imageMirrorStation image m = 0 then none
  else
    some
      { station := BitVec.ofNat 5 (imageMirrorStation image m)
        point := ((imageByte image (mirrorBase m + 1)).extractLsb' 0 2).toFin
        hold := .unheard
        overtaken := false
        age := .stopped }

/-- A term from its term byte, with the values of R107. -/
def termOfByte (t : Byte) : Term :=
  { source := if termIsMirror t then .mirror (termEntry t) else .localPoint (termPoint t)
    sense := if t.getLsbD 6 then .inwardBA else .inwardAB
    aAB := 0
    aBA := 0
    bAB := 0
    bBA := 0
    aSerial := 0 }

/-- The section of an in-use slot, with the values of R107. -/
def imageSection (image : List Byte) (n : Slot) : Option Section :=
  if imageSlotInUse image n then
    some
      { number := imageWord image (sectionBase n + 2)
        direct := imageNat image (sectionBase n + 1) == 1
        terms := (imageTermBytes image n).map termOfByte
        state := .disturbed
        balance := none
        cause := some .start
        swept := false
        round := none
        rounds := 0
        holdOff := .stopped
        nextTag := 0
        restoreSerial := none
        restoreOutcome := .none }
  else none

/-- The loaded configuration: what the front end, the recognizers, the restoration logic and the indication unit take,
and the entries and sections that the mirror table and the section engine take (R178). -/
def imageConfig (image : List Byte) : LoadedConfig :=
  { deb := imageNat image 4
    dwellCode := imageNat image 5
    attnRouting := imageByte image 6
    restore1 := BitVec.ofNat 5 (imageNat image 7)
    restore2 := BitVec.ofNat 5 (imageNat image 8)
    points := .tabulate (imagePoint image)
    mirror := .tabulate (imageEntry image)
    sections := .tabulate (imageSection image) }

end Sys2Proof.Machine
end

