-- ==== Sys2Proof/Machine/Startup.lean ====
section
/-! DEFINITION. The start-up commands (10): reset, release, the configuration read, LOADING and LISTENING. An event that
does not come about in the state it finds changes nothing (log 3). -/

namespace Sys2Proof.Machine

/-- RESET_ASSERTION (R183): a low level is taken as an assertion from its second cycle; a single cycle is ignored. -/
def execResetAssertion (lowCycles : Nat) (s : State) : Host.Outcome State Fault Refusal :=
  .next (if 2 ≤ lowCycles then s.toReset else s)

/-- The part as it enters LOADING with this station number: the timer starts and the read begins (R175, R176, R179). -/
def State.enterLoading (s : State) (station : Station) : State :=
  { s with mode := .loading, station := some station, cfgSelectLow := true, cfgClock := 0,
           loadingTimer := .started }

/-- RESET_RELEASE (R175, R179): straps of 0 halt the part at the release. -/
def execResetRelease (straps : Station) (s : State) : Host.Outcome State Fault Refusal :=
  .next
    (if s.mode = .heldInReset then
      if straps = 0 then (s.enterHalted .config).driveAttn else (s.enterLoading straps).driveAttn
    else s)

/-- A good image becomes the loaded configuration and its values are handed on; the select is driven high (R176, R178).
Entries and sections stand in their tables from the end of LOADING (R94, R129, log 29). -/
def State.loadImage (s : State) (image : List Byte) : State :=
  { s with cfgSelectLow := false, cfgClock := 0, config := some (imageConfig image) }

/-- CONFIGURATION_READ_COMPLETE (R176, R178): the bytes that the levels spell, and the ten checks on them; the first
that fails ends LOADING in HALTED. -/
def execConfigurationReadComplete (levels : List Bool) (s : State) : Host.Outcome State Fault Refusal :=
  let image := bytesOfBits levels
  .next
    (if s.mode = .loading ∧ s.cfgSelectLow then
      if imageGood s.stationNumber image then (s.loadImage image).driveAttn else (s.enterHalted .config).driveAttn
    else s)

/-- The mirror table with the entries that were handed to it. -/
def State.handedMirror (s : State) : Table (Option MirrorEntry) 16 :=
  match s.config with
  | none => s.mirror
  | some c => c.mirror

/-- The section table with the sections that were handed to it. -/
def State.handedSections (s : State) : Table (Option Section) 8 :=
  match s.config with
  | none => s.sections
  | some c => c.sections

/-- The part as it enters LISTENING: the mirror entries are configured UNHEARD and the slots hold their sections (R15,
R94, R101, R103, R105, R107, R129, R180, log 29). -/
def State.enterListening (s : State) : State :=
  { s with
    mode := .listening
    loadingTimer := .stopped
    listeningTimer := .started
    mirror := s.handedMirror
    sections := s.handedSections }

/-- LOADING_TIMER_EXPIRY (R179): with the image loaded, LISTENING begins. -/
def execLoadingTimerExpiry (s : State) : Host.Outcome State Fault Refusal :=
  .next
    (if s.mode = .loading ∧ s.loadingTimer.running ∧ s.config.isSome then s.enterListening.driveAttn else s)

/-- The entries of the entry to RUNNING: a class-3 report for each in-use point, then a class-4 status for each in-use
slot (R47, R171). -/
def State.runningEntries (s : State) : Transmitter :=
  let reports := (allPoints.filter s.pointInUse).foldl (fun t p => t.append (.report p) 3) s.tx
  (allSlots.filter fun n => (s.sections.get n).isSome).foldl (fun t n => t.append (.status n) 4) reports

/-- The part as it enters RUNNING: the entries, the report and status timers of what is in use, the START counters at
50 (R42, R49, R170, R181). -/
def State.enterRunning (s : State) : State :=
  { s with
    mode := .running
    listeningTimer := .stopped
    tx :=
      { s.runningEntries with
        reportTimers := .tabulate fun p => if s.pointInUse p then .started else .stopped
        statusTimers := .tabulate fun n => if (s.sections.get n).isSome then .started else .stopped
        startCounters := .const 4 Config.startFrames } }

/-- LISTENING_TIMER_EXPIRY (R180, R181). -/
def execListeningTimerExpiry (s : State) : Host.Outcome State Fault Refusal :=
  .next (if s.mode = .listening ∧ s.listeningTimer.running then s.enterRunning.driveAttn else s)

end Sys2Proof.Machine
end

