-- ==== Sys2Proof/Machine/FrontEnd.lean ====
section
/-! DEFINITION. The sensor front end (01): what one sweep completion makes of each channel and of the reference. -/

namespace Sys2Proof.Machine

/-- The raw level of a sample against TD and TR, with the band between them holding the level (R3). -/
def classify (td tr : Nat) (a : Sample) (raw : Level) : Level :=
  if a.val ≤ td then .damped else if tr ≤ a.val then .free else raw

/-- The run counter before the comparison with DEB: 0 where the raw level agrees with the filtered level (R4). -/
def runLength (raw filtered : Level) (run : Nat) : Nat := if raw = filtered then 0 else run + 1

/-- The filtered level changes at this completion: the run reaches DEB (R4). -/
def levelChanges (deb : Nat) (raw filtered : Level) (run : Nat) : Bool :=
  raw ≠ filtered && run + 1 = deb

/-- The onset age after a completion that takes the filtered level from `before` to `after` (R5). -/
def onsetAge (deb : Nat) (before after : Level) (onset : Nat) : Nat :=
  match after, before with
  | .free, _ => 0
  | .damped, .free => deb - 1
  | .damped, .damped => min (onset + 1) Config.saturated

/-- Health and window counter after a completion whose sample lies inside the window or not (R7, R8, R10, R11). -/
def supervise (inside : Bool) (health : Health) (window : Nat) : Health × Nat :=
  match health with
  | .ok =>
      if inside then (.ok, 0)
      else if window + 1 = Config.faultPersistence then (.faulted, 0)
      else (.ok, window + 1)
  | .faulted =>
      if inside then
        if window + 1 = Config.recoveryPersistence then (.ok, 0) else (.faulted, window + 1)
      else (.faulted, 0)

/-- The valid window of a channel (R7). -/
def insideWindow (a : Sample) : Bool := decide (Config.windowLow ≤ a.val) && decide (a.val ≤ Config.windowHigh)

/-- The tolerance band of the reference (R10). -/
def insideBand (a : Sample) : Bool := decide (Config.referenceLow ≤ a.val) && decide (a.val ≤ Config.referenceHigh)

/-- A sweep completion on a channel of an in-use point (R2 to R9). Health and level are kept apart (R9). -/
def Channel.sweep (td tr deb : Nat) (a : Sample) (c : Channel) : Channel :=
  let raw := classify td tr a c.raw
  let changes := levelChanges deb raw c.filtered c.run
  let filtered := if changes then raw else c.filtered
  let verdict := supervise (insideWindow a) c.health c.window
  { sample := some a
    raw := raw
    run := if changes then 0 else runLength raw c.filtered c.run
    filtered := filtered
    onset := onsetAge deb c.filtered filtered c.onset
    health := verdict.1
    window := verdict.2 }

/-- A sweep completion on the reference (R10, R11). -/
def Reference.sweep (a : Sample) (r : Reference) : Reference :=
  let verdict := supervise (insideBand a) r.health r.window
  { sample := some a, health := verdict.1, window := verdict.2 }

/-- The result of a channel in a sweep (R1). -/
def resultOf (r : Results) (p : PointIndex) (ch : ChannelName) : Sample :=
  match p, ch with
  | 0, .a => r.a0
  | 0, .b => r.b0
  | 1, .a => r.a1
  | 1, .b => r.b1
  | 2, .a => r.a2
  | 2, .b => r.b2
  | 3, .a => r.a3
  | 3, .b => r.b3

/-- A sweep completion on the two channels of a point. The channels of a point not in use take their samples and
nothing else (R13). -/
def PointChannels.sweep (deb : Nat) (cfg : Option PointConfig) (a b : Sample) (ch : PointChannels) : PointChannels :=
  match cfg with
  | none => { a := { ch.a with sample := some a }, b := { ch.b with sample := some b } }
  | some c => { a := ch.a.sweep c.tdA c.trA deb a, b := ch.b.sweep c.tdB c.trB deb b }

/-- The front end after a sweep completion: the nine results act together (R1). -/
def State.sweepFront (s : State) (r : Results) : State :=
  { s with
    front := .tabulate fun p =>
      (s.front.get p).sweep s.deb (s.pointConfig p) (resultOf r p .a) (resultOf r p .b)
    reference := s.reference.sweep r.reference }

/-- A channel of a point. -/
def PointChannels.channel (ch : PointChannels) : ChannelName → Channel
  | .a => ch.a
  | .b => ch.b

end Sys2Proof.Machine
end

