-- ==== Sys2Proof/Machine/Recognizer.lean ====
section
/-! DEFINITION. The passage recognizers (02): one evaluation of a point record at a sweep completion, in the order of
R19. -/

namespace Sys2Proof.Machine

/-- What the front end hands a recognizer at a sweep completion (R6). -/
structure HandOver where
  filteredA : Level
  filteredB : Level
  onsetA : Nat
  onsetB : Nat
  healthA : Health
  healthB : Health
  healthReference : Health
  deriving DecidableEq, Repr

/-- Any of the three healths is FAULTED. -/
def HandOver.faulted (h : HandOver) : Bool :=
  h.healthA = .faulted || h.healthB = .faulted || h.healthReference = .faulted

/-- Both channels free and all three healths OK (R25). -/
def HandOver.quiet (h : HandOver) : Bool :=
  h.filteredA = .free && h.filteredB = .free && !h.faulted

/-! ## Lag, speed, counting -/

/-- The captured lag from the onset ages of the first and the second channel (R27). -/
def capturedLag (first second : Nat) : Nat :=
  if first = Config.saturated then Config.saturated else first - second

/-- The computed speed in km/h, before any clamp (R29). -/
def passageSpeed (spacing lag : Nat) : Nat :=
  if lag = Config.saturated then 0 else 180 * spacing / lag

/-- The speed of the passage a record completes. The lag is present in every TRAIL state (R28); absent is taken as
below resolution (log 20). -/
def PointRecord.speed (spacing : Nat) (r : PointRecord) : Nat :=
  passageSpeed spacing (r.lag.getD Config.saturated)

/-- The record after a completed passage: back in IDLE, counted, the last passage set, the lag absent (R26, R28,
R31). -/
def PointRecord.countPassage (spacing : Nat) (d : Direction) (r : PointRecord) : PointRecord :=
  { r with
    state := .idle
    nAB := if d = .ab then r.nAB + 1 else r.nAB
    nBA := if d = .ba then r.nBA + 1 else r.nBA
    last := some { direction := d, speed := min (r.speed spacing) Config.speedLimit }
    lag := none }

/-- The record at entry to BLOCKED: no lag, the dwell at 0 (R23). -/
def PointRecord.block (r : PointRecord) : PointRecord := { r with state := .blocked, lag := none, dwell := 0 }

/-- The record in a new state with its lag kept. -/
def PointRecord.pass (state : RecognizerState) (r : PointRecord) : PointRecord := { r with state := state }

/-- The record in a new state without a lag (R28). -/
def PointRecord.back (state : RecognizerState) (r : PointRecord) : PointRecord :=
  { r with state := state, lag := none }

/-! ## The pair of filtered levels -/

/-- The record after its pair is evaluated (R20, R21, R22). BLOCKED is not evaluated here. -/
def PointRecord.takePair (spacing : Nat) (h : HandOver) (r : PointRecord) : PointRecord :=
  match r.state, h.filteredA, h.filteredB with
  | .idle, .free, .free => r
  | .idle, .damped, .free => r.pass .leadA
  | .idle, .free, .damped => r.pass .leadB
  | .idle, .damped, .damped => r.block
  | .leadA, .damped, .free => r
  | .leadA, .free, .free => r.pass .idle
  | .leadA, .damped, .damped => { r with state := .bothA, lag := some (capturedLag h.onsetA h.onsetB) }
  | .leadA, .free, .damped => r.block
  | .bothA, .damped, .damped => r
  | .bothA, .free, .damped => r.pass .trailA
  | .bothA, .damped, .free => r.back .leadA
  | .bothA, .free, .free => r.block
  | .trailA, .free, .damped => r
  | .trailA, .free, .free => r.countPassage spacing .ab
  | .trailA, .damped, .damped => r.pass .bothA
  | .trailA, .damped, .free => r.block
  | .leadB, .free, .damped => r
  | .leadB, .free, .free => r.pass .idle
  | .leadB, .damped, .damped => { r with state := .bothB, lag := some (capturedLag h.onsetB h.onsetA) }
  | .leadB, .damped, .free => r.block
  | .bothB, .damped, .damped => r
  | .bothB, .damped, .free => r.pass .trailB
  | .bothB, .free, .damped => r.back .leadB
  | .bothB, .free, .free => r.block
  | .trailB, .damped, .free => r
  | .trailB, .free, .free => r.countPassage spacing .ba
  | .trailB, .damped, .damped => r.pass .bothB
  | .trailB, .free, .damped => r.block
  | .blocked, _, _ => r

/-- This completion counts a passage at this record (R26). -/
def PointRecord.countsPassage (h : HandOver) (r : PointRecord) : Bool :=
  !h.faulted && (r.state = .trailA || r.state = .trailB) && h.filteredA = .free && h.filteredB = .free

/-- This completion counts an overspeed passage (R30): the computed speed is compared before the clamp. -/
def PointRecord.overspeeds (cfg : PointConfig) (h : HandOver) (r : PointRecord) : Bool :=
  r.countsPassage h && decide (cfg.vmax < r.speed cfg.spacing)

/-! ## The dwell -/

/-- The dwell counter reaches the dwell length at this completion (R25). -/
def PointRecord.dwellEnds (dwellLength : Nat) (h : HandOver) (r : PointRecord) : Bool :=
  r.state = .blocked && h.quiet && r.dwell + 1 = dwellLength

/-- A completion in BLOCKED (R25). -/
def PointRecord.takeDwell (dwellLength : Nat) (h : HandOver) (r : PointRecord) : PointRecord :=
  if h.quiet then
    if r.dwell + 1 = dwellLength then { r with state := .idle, dwell := 0 } else { r with dwell := r.dwell + 1 }
  else { r with dwell := 0 }

/-! ## The whole evaluation (R19) -/

/-- Steps 1 to 3 of R19: fault entry, dwell, or the pair. -/
def PointRecord.takeLevels (cfg : PointConfig) (dwellLength : Nat) (h : HandOver) (r : PointRecord) : PointRecord :=
  if r.state = .blocked then r.takeDwell dwellLength h
  else if h.faulted then r.block
  else r.takePair cfg.spacing h

/-- The condition of a record whose state is settled for this completion (R33). -/
def conditionOf (state : RecognizerState) (h : HandOver) : Condition :=
  if h.faulted then .faulted else if state = .blocked then .disturbed else .normal

/-- The head of a record (R34). -/
def headOf (state : RecognizerState) (condition : Condition) (h : HandOver) : Head :=
  match state with
  | .idle => .free
  | .blocked =>
      if h.filteredA = .damped || h.filteredB = .damped || condition = .faulted then .wheelOn else .free
  | .leadA => .wheelOn
  | .bothA => .wheelOn
  | .trailA => .wheelOn
  | .leadB => .wheelOn
  | .bothB => .wheelOn
  | .trailB => .wheelOn

/-- The serial advances on leaving NORMAL and on an overspeed passage, by at most 1 (R35). -/
def advanceSerial (before after : Condition) (overspeed : Bool) (serial : Serial) : Serial :=
  if (before = .normal ∧ after ≠ .normal) ∨ overspeed then serial + 1 else serial

/-- One evaluation of a point record (R19). -/
def PointRecord.evaluate (cfg : PointConfig) (dwellLength : Nat) (h : HandOver) (r : PointRecord) : PointRecord :=
  let settled := r.takeLevels cfg dwellLength h
  let condition := conditionOf settled.state h
  { settled with
    condition := condition
    head := headOf settled.state condition h
    serial := advanceSerial r.condition condition (r.overspeeds cfg h) r.serial }

/-- The completion changed counts, head, condition or serial: one point change is handed on (R36). -/
def pointChanged (before after : PointRecord) : Bool :=
  before.nAB ≠ after.nAB || before.nBA ≠ after.nBA || before.head ≠ after.head ||
    before.condition ≠ after.condition || before.serial ≠ after.serial

/-- What the front end hands over for a point, as it stands (R6). -/
def State.handOver (s : State) (p : PointIndex) : HandOver :=
  let ch := s.front.get p
  { filteredA := ch.a.filtered
    filteredB := ch.b.filtered
    onsetA := ch.a.onset
    onsetB := ch.b.onset
    healthA := ch.a.health
    healthB := ch.b.health
    healthReference := s.reference.health }

/-- The record of a point after an evaluation on the front end as it stands; the record of a point not in use is kept
(R37). -/
def State.evaluatedRecord (s : State) (p : PointIndex) : PointRecord :=
  match s.pointConfig p with
  | none => s.records.get p
  | some cfg => (s.records.get p).evaluate cfg s.dwellLength (s.handOver p)

/-- The four recognizers evaluated, each on its own record (R19). -/
def State.sweepRecords (s : State) : State :=
  { s with records := .tabulate s.evaluatedRecord }

/-- The points that hand on a point change, in ascending order. -/
def changedPoints (before after : State) : List PointIndex :=
  allPoints.filter fun p => pointChanged (before.records.get p) (after.records.get p)

end Sys2Proof.Machine
end

