-- ==== Sys2Proof/Machine/Sweep.lean ====
section
/-! DEFINITION. The sweep commands: SWEEP_COMPLETION, and the seven rows that name a sweep completion by what it brings
about (log 4). The results of a sweep act together, so each of the seven is the whole completion (R1). -/

namespace Sys2Proof.Machine

/-! ## The shared operation -/

/-- The points taken in the order of a list; points it does not hold follow in ascending order. -/
def orderedBy (order points : List PointIndex) : List PointIndex :=
  (order.filter fun p => points.contains p).dedup ++ points.filter fun p => !order.contains p

/-- The order in which one section takes the point changes of one completion: free where there are several (log 9). -/
def changeOrder (draw : Nat) (n : Slot) (points : List PointIndex) : List PointIndex :=
  match points with
  | [] => []
  | [p] => [p]
  | p :: q :: rest => orderedBy (Config.pointChangeOrder draw n) (p :: q :: rest)

/-- The changed points that are local terms of the section in a slot. -/
def State.changesReaching (s : State) (changed : List PointIndex) (n : Slot) : List PointIndex :=
  match s.sections.get n with
  | none => []
  | some sec => changed.filter fun p => sec.uses (.localPoint p)

/-- One point change reaches the section of a slot, and whether its CLEAR line has gone from held low to high at this
completion is remembered. -/
def sweepChange (n : Slot) (acc : State × Bool) (p : PointIndex) : State × Bool :=
  let after := acc.1.reachSection n none (.localPoint p)
  (after, acc.2 || (!(acc.1.lines.get n).toggling && (after.lines.get n).toggling))

/-- The section of a slot takes the point changes of the completion, and its toggle phase advances. Where the line has
gone high at this very completion either order may be taken (R167, log 8). -/
def State.sweepSlot (changed : List PointIndex) (draw : Nat) (s : State) (n : Slot) : State :=
  let taken := (changeOrder draw n (s.changesReaching changed n)).foldl (sweepChange n) (s, false)
  if taken.2 && !Config.toggleAfterEntry draw n then taken.1
  else taken.1.setLine n (taken.1.lines.get n).sweep

/-- A sweep completion: channels and reference, recognizers, reports due, sections and CLEAR lines (R1, R6, R19, R36,
R43, R108, R167), while the front end sweeps (R14 to R16). -/
def State.sweep (s : State) (r : Results) : State :=
  let evaluated := (s.sweepFront r).sweepRecords
  let changed := changedPoints s evaluated
  let reported := changed.foldl State.pointChangeDue evaluated
  let sectioned := allSlots.foldl (State.sweepSlot changed s.draws) reported
  { sectioned with draws := s.draws + 1 }

/-- A sweep completion with its preemption and the ATTN lines it leaves (R71, R173). -/
def State.completeSweep (s : State) (r : Results) : State :=
  if s.mode.listens then (s.sweep r).preempt.driveAttn else s

/-! ## What a sweep completion brings about -/

/-- A channel of a point as it stands. -/
def State.channel (s : State) (p : PointIndex) (ch : ChannelName) : Channel := (s.front.get p).channel ch

/-- The filtered level of the channel changes at this completion (R4). -/
def State.levelChangeIn (s : State) (r : Results) (p : PointIndex) (ch : ChannelName) : Bool :=
  (s.channel p ch).filtered ≠ ((s.sweepFront r).channel p ch).filtered

/-- The channel goes from this health to the other at this completion (R7, R8). -/
def State.healthChangeIn (s : State) (r : Results) (p : PointIndex) (ch : ChannelName) (before : Health) : Bool :=
  (s.channel p ch).health = before && ((s.sweepFront r).channel p ch).health ≠ before

/-- The reference goes from this health to the other at this completion (R10, R11). -/
def State.referenceChangeIn (s : State) (r : Results) (before : Health) : Bool :=
  s.reference.health = before && (s.sweepFront r).reference.health ≠ before

/-- The dwell of the point ends at this completion (R25). -/
def State.dwellEndsIn (s : State) (r : Results) (p : PointIndex) : Bool :=
  s.pointInUse p && (s.records.get p).dwellEnds s.dwellLength ((s.sweepFront r).handOver p)

/-- The toggle phase of the slot reaches 25 or 50 at this completion (R167). -/
def State.halfPeriodEnds (s : State) (n : Slot) : Bool :=
  (s.lines.get n).toggling &&
    ((s.lines.get n).phase + 1 = Config.togglesHigh || (s.lines.get n).phase + 1 = Config.togglesPeriod)

/-! ## The commands -/

/-- SWEEP_COMPLETION (R1). -/
def execSweepCompletion (r : Results) (s : State) : Host.Outcome State Fault Refusal :=
  .next (s.completeSweep r)

/-- FILTERED_LEVEL_CHANGE (R4, R5): the sweep completion, where these results change the channel's filtered level. -/
def execFilteredLevelChange (r : Results) (p : PointIndex) (ch : ChannelName) (s : State) :
    Host.Outcome State Fault Refusal :=
  .next (if s.levelChangeIn r p ch then s.completeSweep r else s)

/-- CHANNEL_FAULTED (R7, R24): the sweep completion, where these results make the channel FAULTED. -/
def execChannelFaulted (r : Results) (p : PointIndex) (ch : ChannelName) (s : State) :
    Host.Outcome State Fault Refusal :=
  .next (if s.healthChangeIn r p ch .ok then s.completeSweep r else s)

/-- CHANNEL_RECOVERED (R8): the sweep completion, where these results return the channel to OK. -/
def execChannelRecovered (r : Results) (p : PointIndex) (ch : ChannelName) (s : State) :
    Host.Outcome State Fault Refusal :=
  .next (if s.healthChangeIn r p ch .faulted then s.completeSweep r else s)

/-- REFERENCE_FAULTED (R10, R12, R24): the sweep completion, where these results make the reference FAULTED. -/
def execReferenceFaulted (r : Results) (s : State) : Host.Outcome State Fault Refusal :=
  .next (if s.referenceChangeIn r .ok then s.completeSweep r else s)

/-- REFERENCE_RECOVERED (R11): the sweep completion, where these results return the reference to OK. -/
def execReferenceRecovered (r : Results) (s : State) : Host.Outcome State Fault Refusal :=
  .next (if s.referenceChangeIn r .faulted then s.completeSweep r else s)

/-- DWELL_END (R25): the sweep completion, where these results end the point's dwell. -/
def execDwellEnd (r : Results) (p : PointIndex) (s : State) : Host.Outcome State Fault Refusal :=
  .next (if s.dwellEndsIn r p then s.completeSweep r else s)

/-- TOGGLE_HALF_PERIOD (R167): the sweep completion, where it ends a half-period of the slot's CLEAR line. -/
def execToggleHalfPeriod (r : Results) (n : Slot) (s : State) : Host.Outcome State Fault Refusal :=
  .next (if s.halfPeriodEnds n then s.completeSweep r else s)

end Sys2Proof.Machine
end

