-- ==== Sys2Proof/Machine/Transmit.lean ====
section
/-! DEFINITION. The transmitter's commands (04, section 4.6): loading, moving, starting, arbitration, errors, MUTE and
completion. -/

namespace Sys2Proof.Machine

/-- NEXT_LAYER_LOAD (R68): in RUNNING, with the next layer empty and the pending list not empty. -/
def execNextLayerLoad (s : State) : Host.Outcome State Fault Refusal :=
  .next (if s.mode = .running ∧ s.tx.next = none then s.loadNext else s)

/-- The next frame moves to the live layer as it stands, and the transmitter passes from QUIET to WAITING (R69). -/
def Transmitter.move (t : Transmitter) : Transmitter :=
  { t with live := t.next, next := none, state := .waiting }

/-- LIVE_LAYER_MOVE (R69). -/
def execLiveLayerMove (s : State) : Host.Outcome State Fault Refusal :=
  .next
    (if s.mode = .running ∧ s.tx.live = none ∧ s.tx.next.isSome ∧ s.tx.state = .quiet then s.withTx s.tx.move else s)

/-- The receiver at an idle completion: a frame still being assembled is incomplete and discarded (R60, R83). -/
def Receiver.idle (r : Receiver) : Receiver :=
  { r with idleCount := Config.idleBits, assembling := false, buffer := [], sent := none }

/-- A WAITING transmitter begins its frame at an idle completion (R73). -/
def Transmitter.start (t : Transmitter) : Transmitter :=
  if t.state = .waiting then { t with state := .arbitrating } else t

/-- IDLE_COMPLETION (R60, R73, R83): outside a character, while the receiver observes the line. Only a part in RUNNING
has a WAITING frame (R78, R79). -/
def execIdleCompletion (s : State) : Host.Outcome State Fault Refusal :=
  .next
    (if s.mode.listens ∧ s.rx.inCharacter = false then
      (s.withRx s.rx.idle).withTx (if s.mode = .running then s.tx.start else s.tx)
    else s)

/-- The bits of the live frame, counted from its first start bit (R59); none without a frame. -/
def Transmitter.liveBits (t : Transmitter) : List Bool :=
  match t.live with
  | none => []
  | some lf => frameBits lf.frame.encode

/-- The bits that arbitration compares: the first start bit and the arbitration byte (R74). -/
def arbitrationBits : Nat := 9

/-- The bit of the live frame at this position, where the transmitter sends it in its present state: in ARBITRATING the
start bit and the arbitration byte (R74), in SENDING every later bit (R75). -/
def Transmitter.sentBit (t : Transmitter) (position : Nat) : Option Bool :=
  match t.state with
  | .arbitrating => if position < arbitrationBits then t.liveBits[position]? else none
  | .sending => if arbitrationBits ≤ position then t.liveBits[position]? else none
  | .quiet => none
  | .waiting => none
  | .mute => none

/-- The level that FL_TX carries for the bit at this position of the live frame (R56, R72): dominant for a 0 that the
transmitter is now sending, recessive for everything else. No command shows the pin bit by bit (log 17). -/
def Transmitter.drives (t : Transmitter) (position : Nat) : LineLevel :=
  if t.sentBit position = some false then .dominant else .recessive

/-- All nine bits of arbitration are read back as sent (R57, R58, R74). -/
def Transmitter.readsAsSent (t : Transmitter) (bits : List BitSamples) : Bool :=
  bits.map bitValue == t.liveBits.take arbitrationBits

/-- ARBITRATION_WON (R58, R74): nine bits read back as sent. -/
def execArbitrationWon (s : State) (bits : List BitSamples := []) : Host.Outcome State Fault Refusal :=
  .next
    (if s.mode = .running ∧ s.tx.state = .arbitrating ∧ s.tx.readsAsSent bits then
      s.withTx { s.tx with state := .sending }
    else s)

/-- The place of a data bit of the arbitration byte in the frame; bit 7 follows the start bit (R59). -/
def dataPosition (bit : Fin 8) : Nat := 8 - bit.val

/-- LOST_ARBITRATION (R58, R74): a data bit sent as 1 is read back as 0. Back to WAITING, refreshed, the failure count
unchanged. -/
def execLostArbitration (bit : Fin 8) (s : State) (samples : BitSamples := .atRest) :
    Host.Outcome State Fault Refusal :=
  .next
    (if s.mode = .running ∧ s.tx.state = .arbitrating ∧ s.tx.sentBit (dataPosition bit) = some true ∧
        bitValue samples = false then
      s.returnToWaiting
    else s)

/-- A bit error: the bit now sent at this position is read back with the other value (R58, R76). In ARBITRATING only a 0
read back as 1 is one (R74). -/
def Transmitter.bitErrorAt (t : Transmitter) (position : Nat) (samples : BitSamples) : Bool :=
  match t.sentBit position with
  | none => false
  | some true => t.state = .sending && !bitValue samples
  | some false => bitValue samples

/-- The transmitter is muted: both layers are emptied and HALTED is requested with cause MUTE (R77). -/
def State.enterMute (s : State) : State :=
  ((s.withTx
      { s.tx with state := .mute, failures := s.tx.failures + 1, live := none, next := none }).enterHalted
    .mute).driveAttn

/-- The abort that brings the failure count to 16 (R76, R77). -/
def Transmitter.lastFailure (t : Transmitter) : Bool := Config.failureLimit ≤ t.failures + 1

/-- A frame is aborted in RUNNING: one more failure, then WAITING with the frame refreshed, or MUTE (R76). -/
def State.abortFrame (s : State) : State :=
  if s.tx.lastFailure then s.enterMute
  else (s.withTx { s.tx with failures := s.tx.failures + 1 }).returnToWaiting

/-- A frame being finished in HALTED is broken off: not retried, the failure count unchanged (R79). -/
def Transmitter.dropLive (t : Transmitter) : Transmitter := { t with state := .quiet, live := none }

/-- BIT_ERROR (R58, R74, R76, R79). -/
def execBitError (position : Nat) (s : State) (samples : BitSamples := .atRest) : Host.Outcome State Fault Refusal :=
  .next
    (if s.tx.bitErrorAt position samples then
      if s.mode = .running then s.abortFrame
      else if s.mode = .halted ∧ s.tx.state = .sending then s.withTx s.tx.dropLive
      else s
    else s)

/-- MUTE (R77): the bit error that brings the failure count to 16. -/
def execMute (position : Nat) (s : State) (samples : BitSamples := .atRest) : Host.Outcome State Fault Refusal :=
  .next (if s.mode = .running ∧ s.tx.bitErrorAt position samples ∧ s.tx.lastFailure then s.enterMute else s)

/-- The point of a frame built with START set (R49). -/
def Frame.startPoint : Frame → Option PointIndex
  | .countReport _ _ c _ => if c.start then some c.point else none
  | .settleAnswer _ _ _ _ c => if c.start then some c.point else none
  | .sectionStatus _ _ _ => none
  | .settleRequest _ _ _ _ => none
  | .restoreCommand _ _ _ _ _ => none

/-- The START counter of a completed frame's point decreases; on reaching 0 the unstarted frames of the point are
rebuilt with START clear (R49). -/
def State.spendStart (s : State) (f : Frame) : State :=
  match f.startPoint with
  | none => s
  | some p =>
    let spent :=
      s.withTx { s.tx with startCounters := s.tx.startCounters.set p (s.tx.startCounters.get p - 1) }
    if s.tx.startCounters.get p = 1 then spent.refresh (EntryKind.carriesPoint p) sameClass else spent

/-- The live frame completes: failure count 0, live layer empty, QUIET, the START counter; the receiver, while it runs,
remembers the frame for the own-frame test at this stop bit (R75, R85). -/
def State.completeFrame (s : State) (lf : LayerFrame) : State :=
  let emptied := s.withTx { s.tx with state := .quiet, failures := 0, live := none }
  let noted :=
    if s.mode = .running then emptied.withRx { s.rx with sent := some lf.frame.encode } else emptied
  noted.spendStart lf.frame

/-- FRAME_COMPLETION (R49, R58, R75, R79): the last stop bit is read back as recessive. -/
def execFrameCompletion (s : State) (samples : BitSamples := .atRest) : Host.Outcome State Fault Refusal :=
  .next
    (match s.tx.live with
      | none => s
      | some lf =>
        if s.tx.state = .sending ∧ (s.mode = .running ∨ s.mode = .halted) ∧ bitValue samples then s.completeFrame lf
        else s)

end Sys2Proof.Machine
end

