-- ==== Sys2Proof/Machine/Dispatch.lean ====
section
/-! DEFINITION. One arm for each command of the table. -/

namespace Sys2Proof.Machine

/-- The effect of a command on everything but the queue of waiting commands. -/
def exec (i : Instr) (s : State) : Host.Outcome State Fault Refusal :=
  match i with
  | .resetAssertion lowCycles => Sys2Proof.Machine.execResetAssertion lowCycles s
  | .resetRelease straps => Sys2Proof.Machine.execResetRelease straps s
  | .configurationReadComplete levels => Sys2Proof.Machine.execConfigurationReadComplete levels s
  | .loadingTimerExpiry => Sys2Proof.Machine.execLoadingTimerExpiry s
  | .listeningTimerExpiry => Sys2Proof.Machine.execListeningTimerExpiry s
  | .sweepCompletion results => Sys2Proof.Machine.execSweepCompletion results s
  | .filteredLevelChange results point channel => Sys2Proof.Machine.execFilteredLevelChange results point channel s
  | .channelFaulted results point channel => Sys2Proof.Machine.execChannelFaulted results point channel s
  | .channelRecovered results point channel => Sys2Proof.Machine.execChannelRecovered results point channel s
  | .referenceFaulted results => Sys2Proof.Machine.execReferenceFaulted results s
  | .referenceRecovered results => Sys2Proof.Machine.execReferenceRecovered results s
  | .dwellEnd results point => Sys2Proof.Machine.execDwellEnd results point s
  | .toggleHalfPeriod results slot => Sys2Proof.Machine.execToggleHalfPeriod results slot s
  | .reportTimerExpiry point => Sys2Proof.Machine.execReportTimerExpiry point s
  | .statusTimerExpiry slot => Sys2Proof.Machine.execStatusTimerExpiry slot s
  | .ageTimerExpiry entry => Sys2Proof.Machine.execAgeTimerExpiry entry s
  | .deadlineExpiry slot => Sys2Proof.Machine.execDeadlineExpiry slot s
  | .holdOffExpiry slot => Sys2Proof.Machine.execHoldOffExpiry slot s
  | .nextLayerLoad => Sys2Proof.Machine.execNextLayerLoad s
  | .liveLayerMove => Sys2Proof.Machine.execLiveLayerMove s
  | .idleCompletion => Sys2Proof.Machine.execIdleCompletion s
  | .arbitrationWon bits => Sys2Proof.Machine.execArbitrationWon s bits
  | .lostArbitration bit samples => Sys2Proof.Machine.execLostArbitration bit s samples
  | .bitError position samples => Sys2Proof.Machine.execBitError position s samples
  | .mute position samples => Sys2Proof.Machine.execMute position s samples
  | .frameCompletion samples => Sys2Proof.Machine.execFrameCompletion s samples
  | .framingError bit samples => Sys2Proof.Machine.execFramingError bit samples s
  | .badLength data => Sys2Proof.Machine.execBadLength data s
  | .receiverFrameComplete data => Sys2Proof.Machine.execReceiverFrameComplete data s
  | .countReport => Sys2Proof.Machine.execCountReport s
  | .settleAnswer => Sys2Proof.Machine.execSettleAnswer s
  | .settleRequest => Sys2Proof.Machine.execSettleRequest s
  | .sectionStatus => Sys2Proof.Machine.execSectionStatus s
  | .restoreCommand => Sys2Proof.Machine.execRestoreCommand s
  | .startBit dominantSamples samples => Sys2Proof.Machine.execStartBit dominantSamples samples s
  | .characterComplete data => Sys2Proof.Machine.execCharacterComplete data s
  | .class7FrameHandled => Sys2Proof.Machine.execClass7FrameHandled s

end Sys2Proof.Machine
end

