-- ==== Sys2Proof/Safety.lean ====
section
/-! DEFINITION. What holds of the part between any two commands, block by block, in the terms the claims use. Each is an
invariant: it holds at reset, and the statements say that every step keeps it. -/

namespace Sys2Proof.Machine

/-! ## The start-up controller (10) -/

/-- Mode, halt cause, station, configuration and the two phase timers agree (R175, R176, R178 to R183). -/
structure ModeSound (s : State) : Prop where
  halted : s.cause.isSome = true ↔ s.mode = .halted
  loading : s.loadingTimer.running = true ↔ s.mode = .loading
  listening : s.listeningTimer.running = true ↔ s.mode = .listening
  reading : s.cfgSelectLow = true → s.mode = .loading ∧ s.config = none
  clocked : s.cfgClock ≤ Config.readPeriods ∧ (s.cfgSelectLow = false → s.cfgClock = 0)
  configured : s.mode.listens = true → s.config.isSome = true
  forgotten : s.mode = .heldInReset → s.station = none ∧ s.config = none
  stationed : s.mode = .loading ∨ s.mode.listens = true → s.station.isSome = true
  numbered : s.station ≠ some 0

/-! ## Front end and recognizers (01, 02) -/

/-- The pair of filtered levels that a recognizer outside BLOCKED was last handed (R20 to R22, R25). -/
def RecognizerState.pair : RecognizerState → Option (Level × Level)
  | .idle => some (.free, .free)
  | .leadA => some (.damped, .free)
  | .bothA => some (.damped, .damped)
  | .trailA => some (.free, .damped)
  | .leadB => some (.free, .damped)
  | .bothB => some (.damped, .damped)
  | .trailB => some (.damped, .free)
  | .blocked => none

/-- The states that carry a captured lag (R28). -/
def RecognizerState.carriesLag : RecognizerState → Bool
  | .bothA => true
  | .trailA => true
  | .bothB => true
  | .trailB => true
  | .idle => false
  | .leadA => false
  | .leadB => false
  | .blocked => false

/-- The quantities of a channel of an in-use point lie in their ranges (R4, R5, R7, R8). -/
structure ChannelSound (deb : Nat) (c : Channel) : Prop where
  run : c.run < deb
  agreed : c.raw = c.filtered → c.run = 0
  free : c.filtered = .free → c.onset = 0
  damped : c.filtered = .damped → deb - 1 ≤ c.onset ∧ c.onset ≤ Config.saturated
  ok : c.health = .ok → c.window < Config.faultPersistence
  faulted : c.health = .faulted → c.window < Config.recoveryPersistence

/-- A point record agrees with what the front end last handed over (R24, R25, R27, R28, R31, R33, R34). -/
structure RecordSound (dwellLength : Nat) (h : HandOver) (r : PointRecord) : Prop where
  condition : r.condition = conditionOf r.state h
  head : r.head = headOf r.state r.condition h
  levels : ∀ p ∈ r.state.pair, h.filteredA = p.1 ∧ h.filteredB = p.2
  healthy : r.state ≠ .blocked → h.faulted = false
  lagged : r.lag.isSome = r.state.carriesLag
  lagRange : ∀ l ∈ r.lag, 1 ≤ l ∧ l ≤ Config.saturated
  dwell : r.dwell < dwellLength
  dwellBlocked : r.state ≠ .blocked → r.dwell = 0
  speed : ∀ l ∈ r.last, l.speed ≤ Config.speedLimit

/-- A channel of a point not in use holds its reset values but for its sample (R13). -/
def Channel.unused (c : Channel) : Prop := { c with sample := none } = Channel.reset

/-- Front end and point records in every mode (R13, R14, R17, R37, R39). -/
structure PointsSound (s : State) : Prop where
  deb : ∀ c ∈ s.config, 2 ≤ c.deb ∧ c.deb ≤ 8
  dwell : ∀ c ∈ s.config, 1 ≤ c.dwellCode ∧ c.dwellCode ≤ 50
  resting : s.mode = .heldInReset ∨ s.mode = .loading →
    s.front = State.reset.front ∧ s.records = State.reset.records ∧ s.reference = State.reset.reference
  unused : ∀ p, s.pointInUse p = false →
    s.records.get p = .reset ∧ (s.front.get p).a.unused ∧ (s.front.get p).b.unused
  channels : ∀ p, s.pointInUse p = true →
    ChannelSound s.deb (s.front.get p).a ∧ ChannelSound s.deb (s.front.get p).b
  records : ∀ p, s.pointInUse p = true → RecordSound s.dwellLength (s.handOver p) (s.records.get p)
  reference : s.reference.health = .ok → s.reference.window < Config.faultPersistence
  referenceFaulted : s.reference.health = .faulted → s.reference.window < Config.recoveryPersistence

/-! ## Transmitter (03, 04) -/

/-- The transmitter's state, its layers and its failure count agree with each other and with the mode (R49, R72, R75,
R77 to R80). Only answers stay in a layer unsent, and only in HALTED (R136). -/
structure TxSound (s : State) : Prop where
  live : s.tx.live.isSome = true ↔ s.tx.state = .waiting ∨ s.tx.state = .arbitrating ∨ s.tx.state = .sending
  silent : s.mode ≠ .running → s.tx.next = none ∧
    (s.tx.state = .quiet ∨ (s.mode = .halted ∧ (s.tx.state = .sending ∨ s.tx.state = .mute)))
  mute : s.tx.state = .mute ↔ s.tx.failures = Config.failureLimit
  muteHalts : s.tx.state = .mute → s.mode = .halted
  failures : s.tx.failures ≤ Config.failureLimit
  starts : ∀ p, s.tx.startCounters.get p ≤ Config.startFrames
  kept : s.mode ≠ .halted → s.tx.keptLive = none ∧ s.tx.keptNext = none
  keptLive : ∀ lf ∈ s.tx.keptLive, lf.entry.kind.isAnswer = true
  keptNext : ∀ lf ∈ s.tx.keptNext, lf.entry.kind.isAnswer = true

/-- Every unstarted frame carries the state of the part as it now stands (R54, R70), and a SETTLE REQUEST is never
built anew because nothing it was built from changes (R70, R134). -/
structure FramesCurrent (s : State) : Prop where
  next : ∀ lf ∈ s.tx.next, s.buildFrame lf.entry = some lf.frame
  waiting : s.tx.state = .waiting → ∀ lf ∈ s.tx.live, s.buildFrame lf.entry = some lf.frame
  request : ∀ lf ∈ s.tx.live, ∀ n, lf.entry.kind.isRequest n = true → s.buildFrame lf.entry = some lf.frame
  buildable : ∀ lf ∈ s.tx.live, (s.buildFrame lf.entry).isSome = true

/-- The class numbers that an entry of each kind may hold (R65). -/
def EntryKind.mayHold : EntryKind → Nat → Prop
  | .report _, cls => cls = 3 ∨ cls = 5
  | .status _, cls => cls = 4 ∨ cls = 6
  | .request _ _ _, cls => cls = 2
  | .answer _ _ _ _, cls => cls = 1

/-- What an entry concerns is in use here (R37, R50, R65, R105). -/
def State.concernsInUse (s : State) : EntryKind → Prop
  | .report p => s.pointInUse p = true
  | .status n => (s.sections.get n).isSome = true
  | .request n _ _ => (s.sections.get n).isSome = true
  | .answer _ _ p _ => s.pointInUse p = true

/-- The pending list with the next layer (R42, R65 to R68, R71, R78, R134, R135, R170). -/
structure PendingSound (s : State) : Prop where
  ordered : s.tx.entries.Pairwise fun e f => e.place < f.place
  numbered : ∀ e ∈ s.tx.entries, e.place < s.tx.nextPlace
  distinct : s.tx.entries.Pairwise fun e f => e.kind.sameKey f.kind = false
  classes : ∀ e ∈ s.tx.entries, e.kind.mayHold e.cls
  inUse : ∀ e ∈ s.tx.entries, s.concernsInUse e.kind
  answers : s.tx.answersHeld ≤ Config.answerCapacity
  rounds : s.mode = .running → ∀ e ∈ s.tx.entries, s.roundOpen e.kind = true
  next : ∀ lf ∈ s.tx.next, lf.entry.place < s.tx.nextPlace ∧ lf.entry.kind.mayHold lf.entry.cls ∧
    s.concernsInUse lf.entry.kind ∧ ∀ e ∈ s.tx.entries, e.place ≠ lf.entry.place
  lowest : ∀ lf ∈ s.tx.next, ∀ e ∈ s.tx.entries, lf.entry.cls ≤ e.cls
  empty : s.mode ≠ .running → s.tx.next = none ∧ (s.mode ≠ .halted → s.tx.entries = [])
  reportTimers : ∀ p, (s.tx.reportTimers.get p).running = true → s.mode = .running ∧ s.pointInUse p = true
  statusTimers : ∀ n, (s.tx.statusTimers.get n).running = true →
    s.mode = .running ∧ (s.sections.get n).isSome = true

/-! ## Receiver (05) -/

/-- A frame that entered the FIFO: 7 to 13 bytes, its CRC good, its source another station (R61, R84, R85). -/
structure GoodFrame (s : State) (bytes : List Byte) : Prop where
  crc : crc bytes = 0#16
  long : 7 ≤ bytes.length
  short : bytes.length ≤ 13
  foreign : s.station ≠ some (sourceOf bytes)

/-- The receiver, the FIFO and the handler (R60, R81 to R87, R101 to R103). -/
structure RxSound (s : State) : Prop where
  fifo : s.rx.fifo.length ≤ Config.fifoCapacity
  taken : s.rx.handling = none → s.rx.fifo = []
  queued : ∀ bytes ∈ s.rx.fifo, GoodFrame s bytes
  handled : ∀ bytes ∈ s.rx.handling, GoodFrame s bytes
  idle : s.rx.idleCount ≤ Config.idleBits
  busy : s.rx.inCharacter = true → s.rx.idleCount = 0
  hunting : s.rx.assembling = false → s.rx.buffer = []
  assembled : ∀ l ∈ frameLength s.rx.buffer, 7 ≤ l ∧ l ≤ 13 ∧ s.rx.buffer.length < l
  stopped : s.mode.listens = false →
    s.rx.assembling = false ∧ s.rx.inCharacter = false ∧ s.rx.fifo = [] ∧ s.rx.handling = none

/-! ## Mirror table (05) -/

/-- A table of mirror entries: one entry for a remote point, none for this station's own (R95, R178). -/
structure EntriesDistinct (station : Option Station) (entries : Table (Option MirrorEntry) 16) : Prop where
  foreign : ∀ m, ∀ e ∈ entries.get m, e.station ≠ 0 ∧ station ≠ some e.station
  distinct : ∀ m k, ∀ e ∈ entries.get m, ∀ f ∈ entries.get k, e.station = f.station → e.point = f.point → m = k

/-- The mirror table: entries of distinct remote points, and an age timer that runs exactly while the entry is FRESH and
the receiver observes the line. Only a FRESH entry has an overtaken expiry (log 34). No entry is configured until LOADING ends, and those handed on then are UNHEARD (R94,
R95, R99, R101 to R103, R178). -/
structure MirrorSound (s : State) : Prop where
  entries : EntriesDistinct s.station s.mirror
  timed : ∀ m, ∀ e ∈ s.mirror.get m,
    (e.age.running = true ↔ (∃ v, e.hold = .fresh v) ∧ s.mode.listens = true)
  overtaken : ∀ m, ∀ e ∈ s.mirror.get m, e.overtaken = true → ∃ v, e.hold = .fresh v
  none : s.mode = .heldInReset ∨ s.mode = .loading → ∀ m, s.mirror.get m = none
  handed : s.mode = .loading → ∀ c ∈ s.config, EntriesDistinct s.station c.mirror ∧
    ∀ m, ∀ e ∈ c.mirror.get m, e.hold = .unheard ∧ e.age.running = false ∧ e.overtaken = false

/-! ## Sections (06, 07, 08) -/

/-- A section's fields agree with its state (R112, R115, R124, R126, R127, R131). -/
structure SectionShape (sec : Section) : Prop where
  balance : sec.balance = none ↔ sec.state = .disturbed
  bound : ∀ b ∈ sec.balance, b ≤ Config.balanceLimit
  cause : sec.cause.isSome = true ↔ sec.state = .disturbed
  round : sec.round.isSome = true ↔ sec.state = .settling
  settled : sec.state = .settling ∨ sec.state = .clear → sec.balance = some 0
  holdOff : sec.holdOff.running = true → sec.state = .occupied
  awaited : ∀ r ∈ sec.round, r.unanswered ≠ [] ∧ (∀ i ∈ r.unanswered, i ∈ sec.remotePositions) ∧
    r.deadline.running = true
  terms : 1 ≤ sec.terms.length ∧ sec.terms.length ≤ 4

/-- Every section in use has the shape of its state, and is DISTURBED whenever the part is not RUNNING. In LOADING no slot
holds a section, and those handed on at its end are DISTURBED (R107, R118, R129). -/
structure SectionsKept (s : State) : Prop where
  shape : ∀ n, ∀ sec ∈ s.sections.get n, SectionShape sec
  disturbed : s.mode ≠ .running → ∀ n, ∀ sec ∈ s.sections.get n, sec.state = .disturbed
  none : s.mode = .heldInReset ∨ s.mode = .loading → ∀ n, s.sections.get n = none
  handed : s.mode = .heldInReset ∨ s.mode = .loading → ∀ c ∈ s.config, ∀ n, ∀ sec ∈ c.sections.get n,
    SectionShape sec ∧ sec.state = .disturbed

/-- A term rests on a current source: readable, NORMAL, FRESH, with the counts and the serial it has applied (R113, R116,
R117). -/
def State.termCurrent (s : State) (t : Term) : Prop :=
  ∃ v ∈ s.source t.source, v.fresh = true ∧ v.condition = .normal ∧ v.nAB = t.aAB ∧ v.nBA = t.aBA ∧
    v.serial = t.aSerial

/-- Every section that is not DISTURBED rests on current sources, and one that is SETTLING or CLEAR on quiet ones (R113,
R116, R117, R126, R127). -/
structure SectionsCurrent (s : State) : Prop where
  current : ∀ n, ∀ sec ∈ s.sections.get n, sec.state ≠ .disturbed → ∀ t ∈ sec.terms, s.termCurrent t
  quiet : ∀ n, ∀ sec ∈ s.sections.get n, sec.state = .settling ∨ sec.state = .clear → s.allQuiet sec = true

/-- What a term has carried into its section since the last ACCEPTED restore, modulo 65536 (R114). -/
def Term.carried (t : Term) : BitVec 16 :=
  match t.sense with
  | .inwardAB => (t.aAB - t.bAB) - (t.aBA - t.bBA)
  | .inwardBA => (t.aBA - t.bBA) - (t.aAB - t.bAB)

/-- The balance relation (R114). -/
def BalanceAgrees (s : State) : Prop :=
  ∀ n, ∀ sec ∈ s.sections.get n, ∀ b ∈ sec.balance, BitVec.ofNat 16 b = (sec.terms.map Term.carried).sum

/-! ## Indications (09) -/

/-- The section of a slot is CLEAR. -/
def State.slotClear (s : State) (n : Slot) : Prop := ∃ sec ∈ s.sections.get n, sec.state = .clear

/-- A CLEAR line toggles exactly while its slot is CLEAR in RUNNING, is high exactly in the first half of its period, and
is else held low with phase 0 (R166, R167). -/
structure LinesSound (s : State) : Prop where
  toggling : ∀ n, (s.lines.get n).toggling = true ↔ s.mode = .running ∧ s.slotClear n
  high : ∀ n, (s.lines.get n).high = true ↔
    (s.lines.get n).toggling = true ∧ (s.lines.get n).phase < Config.togglesHigh
  phase : ∀ n, (s.lines.get n).phase < Config.togglesPeriod
  low : ∀ n, (s.lines.get n).toggling = false → (s.lines.get n).phase = 0

/-- A condition class as the table of R172 words it. -/
def State.classHolds (s : State) : AttnClass → Prop
  | .sectionDisturbed => ∃ n, ∃ sec ∈ s.sections.get n, sec.state = .disturbed
  | .pointFaulted => ∃ p, s.pointInUse p = true ∧ (s.records.get p).condition = .faulted
  | .pointDisturbed => ∃ p, s.pointInUse p = true ∧ (s.records.get p).condition = .disturbed
  | .mirrorNotFresh => ∃ m, ∃ e ∈ s.mirror.get m, ∀ v, e.hold ≠ .fresh v

/-- An enabled class selected to this line holds (R173); `true` is ATTN1. -/
def State.lineCalled (s : State) (line : Bool) : Prop :=
  ∃ c, s.attnRouting.getLsbD c.enableBit = true ∧ s.attnRouting.getLsbD c.selectBit = line ∧ s.classHolds c

/-- Both ATTN lines show what R173 and R174 say. -/
structure AttnSound (s : State) : Prop where
  attn0 : s.attn0 = .active ↔ s.mode.listens = false ∨ s.lineCalled false
  attn1 : s.attn1 = .active ↔ s.mode.listens = false ∨ s.lineCalled true

end Sys2Proof.Machine
end

