-- ==== Sys2Proof/Certificates/Slice0/Obligations.lean ====
section
/-! DEFINITION. The statements for the provers. The words they share stand first; each statement names the rules of spec/
it states, and says so where it states a choice of the model. -/

open Sys2Proof Sys2Proof.Machine

/-! ## Words the statements share -/

namespace Sys2Proof.Claims

/-- TD of a channel. -/
def td (cfg : PointConfig) : ChannelName → Nat
  | .a => cfg.tdA
  | .b => cfg.tdB

/-- TR of a channel. -/
def tr (cfg : PointConfig) : ChannelName → Nat
  | .a => cfg.trA
  | .b => cfg.trB

/-- A sample lies inside the channel valid window (R7). -/
def inWindow (a : Sample) : Prop := 24 ≤ a.val ∧ a.val ≤ 1000

/-- A sample lies inside the reference tolerance band (R10). -/
def inBand (a : Sample) : Prop := 496 ≤ a.val ∧ a.val ≤ 528

/-- The three healths that a point's recognizer is handed are OK. -/
def healthy (s : State) (p : PointIndex) : Prop :=
  (s.front.get p).a.health = .ok ∧ (s.front.get p).b.health = .ok ∧ s.reference.health = .ok

/-- What a transition of R20 to R22 does beside the state: nothing, capture the lag, drop it, count a passage, or enter
BLOCKED. -/
inductive PairEffect where
  | keep
  | capture
  | drop
  | count
  | block
  deriving DecidableEq, Repr

/-- A row of the pair tables. -/
structure PairRow where
  source : RecognizerState
  a : Level
  b : Level
  target : RecognizerState
  effect : PairEffect
  deriving DecidableEq, Repr

/-- The tables of R20, R21 and R22, row by row. -/
def pairTable : List PairRow :=
  [ ⟨.idle, .free, .free, .idle, .keep⟩, ⟨.idle, .damped, .free, .leadA, .keep⟩,
    ⟨.idle, .free, .damped, .leadB, .keep⟩, ⟨.idle, .damped, .damped, .blocked, .block⟩,
    ⟨.leadA, .damped, .free, .leadA, .keep⟩, ⟨.leadA, .free, .free, .idle, .keep⟩,
    ⟨.leadA, .damped, .damped, .bothA, .capture⟩, ⟨.leadA, .free, .damped, .blocked, .block⟩,
    ⟨.bothA, .damped, .damped, .bothA, .keep⟩, ⟨.bothA, .free, .damped, .trailA, .keep⟩,
    ⟨.bothA, .damped, .free, .leadA, .drop⟩, ⟨.bothA, .free, .free, .blocked, .block⟩,
    ⟨.trailA, .free, .damped, .trailA, .keep⟩, ⟨.trailA, .free, .free, .idle, .count⟩,
    ⟨.trailA, .damped, .damped, .bothA, .keep⟩, ⟨.trailA, .damped, .free, .blocked, .block⟩,
    ⟨.leadB, .free, .damped, .leadB, .keep⟩, ⟨.leadB, .free, .free, .idle, .keep⟩,
    ⟨.leadB, .damped, .damped, .bothB, .capture⟩, ⟨.leadB, .damped, .free, .blocked, .block⟩,
    ⟨.bothB, .damped, .damped, .bothB, .keep⟩, ⟨.bothB, .damped, .free, .trailB, .keep⟩,
    ⟨.bothB, .free, .damped, .leadB, .drop⟩, ⟨.bothB, .free, .free, .blocked, .block⟩,
    ⟨.trailB, .damped, .free, .trailB, .keep⟩, ⟨.trailB, .free, .free, .idle, .count⟩,
    ⟨.trailB, .damped, .damped, .bothB, .keep⟩, ⟨.trailB, .free, .damped, .blocked, .block⟩ ]

/-- The lag captured from the onset ages of the first and the second channel (R27). -/
def lagOf (first second : Nat) : Nat := if first = 65535 then 65535 else first - second

/-- The speed of a passage with captured lag `lag` at a point of this spacing (R29). -/
def speedOf (spacing lag : Nat) : Nat := if lag = 65535 then 0 else 180 * spacing / lag

/-- A state with one of the seven recognizer stages outside BLOCKED that R34 reads as WHEEL_ON. -/
def inPassage (st : RecognizerState) : Prop := st ≠ .idle ∧ st ≠ .blocked

/-- The two states agree on everything outside the front end's samples of points not in use. -/
def sameInUse (p : PointIndex) (r q : Results) : Prop :=
  resultOf r p .a = resultOf q p .a ∧ resultOf r p .b = resultOf q p .b

/-- A frame of this entry kind is held unstarted in a layer (R70). -/
def heldUnstarted (tx : Transmitter) (kind : EntryKind) : Prop :=
  ∃ lf, lf.entry.kind = kind ∧ (tx.next = some lf ∨ tx.state = .waiting ∧ tx.live = some lf)

/-- No entry of the list is of a class below the next layer's frame, so nothing preempts it (R71). -/
def nextIsLowest (tx : Transmitter) : Prop := ∀ lf ∈ tx.next, ∀ e ∈ tx.entries, lf.entry.cls ≤ e.cls

/-- No entry of the list preempts the next layer's frame, nor does a new one of class `cls` (R71). -/
def notPreempted (tx : Transmitter) (cls : Nat) : Prop := nextIsLowest tx ∧ ∀ lf ∈ tx.next, lf.entry.cls ≤ cls

/-- A due cause of this entry kind is held: pending, or by a frame unstarted in a layer (R44 to R46, R66). -/
def isHeld (tx : Transmitter) (kind : EntryKind) : Prop :=
  (∃ e ∈ tx.entries, e.kind = kind) ∨ heldUnstarted tx kind

/-- The content of a frame of this point is the point's: record, START counter and last passage as the state holds them
(R48, R49, R51). -/
def carriesRecord (s : State) (p : PointIndex) (c : PointContent) : Prop :=
  c.point = p ∧ c.nAB = (s.records.get p).nAB ∧ c.nBA = (s.records.get p).nBA ∧
    c.serial = (s.records.get p).serial ∧ c.condition = (s.records.get p).condition ∧
    c.head = (s.records.get p).head ∧ (c.start = true ↔ 0 < s.tx.startCounters.get p) ∧
    c.last = (s.records.get p).last.map fun l => l.direction

/-- The station and point of each remote term, in term order (R134). -/
def askedPoints (s : State) (sec : Section) : List (Station × PointIndex) :=
  sec.terms.filterMap fun t =>
    match t.source with
    | .localPoint _ => none
    | .mirror m => (s.mirror.get m).map fun e => (e.station, e.point)

/-- The frame of an entry of this kind as built by station `own`, every field from the state: a COUNT REPORT (R48), a
SETTLE ANSWER (R51), a SETTLE REQUEST (R68, R134), a SECTION STATUS (R168). -/
def builtFrom (s : State) (own : Station) (kind : EntryKind) (f : Frame) : Prop :=
  match kind with
  | .report p => ∃ change c, f = .countReport own change c ((s.records.get p).last.map fun l => l.speed) ∧
      carriesRecord s p c
  | .answer requester n p tag => ∃ c, f = .settleAnswer own requester n tag c ∧ carriesRecord s p c
  | .request n _ tag => ∃ sec, s.sections.get n = some sec ∧ f = .settleRequest own n tag (askedPoints s sec)
  | .status n => ∃ sec change, s.sections.get n = some sec ∧ f = .sectionStatus own change
      { slot := n, state := sec.state, number := sec.number, balance := sec.balance, cause := sec.cause
        restoreSerial := sec.restoreSerial, restoreOutcome := sec.restoreOutcome }

/-- What two entries of one kind and key have in common: no round of a request, no tag of an answer (R65). -/
def keyOf : EntryKind → EntryKind
  | .report p => .report p
  | .status n => .status n
  | .request n _ _ => .request n 0 0
  | .answer requester n p _ => .answer requester n p 0

/-- A request whose round is open no more (R67). -/
def roundGone (s : State) (kind : EntryKind) : Prop :=
  ∃ n id tag, kind = .request n id tag ∧
    ∀ sec r, s.sections.get n = some sec → sec.round = some r → r.id ≠ id

/-- The second list is the first with this entry put in at its place (R67). -/
def placedIn (e : Entry) (l l' : List Entry) : Prop :=
  ∃ before after, l = before ++ after ∧ l' = before ++ e :: after ∧ (∀ h ∈ before, h.place ≤ e.place) ∧
    ∀ h ∈ after.head?, e.place < h.place

/-- The pending list after the next layer's frame has given way to a new entry that is loaded at once (R67): a request of
a closed round is removed; any other entry takes its old place, or becomes one with the pending entry of its key, at the
earlier place, with the lower class and what the pending one holds, its tag among it. -/
def returnedTo (s : State) (lf : LayerFrame) (entries : List Entry) : Prop :=
  (roundGone s lf.entry.kind → entries = s.tx.entries) ∧
  (¬ roundGone s lf.entry.kind →
    ((∀ g ∈ s.tx.entries, keyOf g.kind ≠ keyOf lf.entry.kind) → placedIn lf.entry s.tx.entries entries) ∧
    ∀ g ∈ s.tx.entries, (∀ h ∈ s.tx.entries, keyOf h.kind = keyOf lf.entry.kind ↔ h = g) →
      placedIn { kind := g.kind, cls := min lf.entry.cls g.cls, place := min lf.entry.place g.place }
        (s.tx.entries.filter fun h => h ≠ g) entries)

/-- A record differs where R36 looks. -/
def recordChanged (r q : PointRecord) : Prop :=
  r.nAB ≠ q.nAB ∨ r.nBA ≠ q.nBA ∨ r.head ≠ q.head ∨ r.condition ≠ q.condition ∨ r.serial ≠ q.serial

/-- A section differs where R128 looks at an evaluation. -/
def sectionMoved (before after : Option Section) : Prop :=
  ∃ x y, before = some x ∧ after = some y ∧ (x.state ≠ y.state ∨ x.balance ≠ y.balance ∨ x.cause ≠ y.cause)

/-- A timer of this length after one microsecond. -/
def advanced (length : Nat) (x : Timer) : Timer :=
  if x.running = true then { x with elapsed := min (x.elapsed + 1) length } else x

/-- The microsecond now passing is the last of this timer's length. -/
def runsOut (length : Nat) (x : Timer) : Prop := x.running = true ∧ length ≤ x.elapsed + 1

/-- The timers of reports and statuses after an entry of this kind is loaded (R42, R170). -/
def timersAfterLoad (tx : Transmitter) : EntryKind → Table Timer 4 × Table Timer 8
  | .report p => (tx.reportTimers.set p .started, tx.statusTimers)
  | .status n => (tx.reportTimers, tx.statusTimers.set n .started)
  | .request _ _ _ => (tx.reportTimers, tx.statusTimers)
  | .answer _ _ _ _ => (tx.reportTimers, tx.statusTimers)

/-- The live frame as it returns to WAITING: a SETTLE REQUEST as it was, any other built anew from the state (R70,
R74, R76). -/
def refreshed (s : State) (lf : LayerFrame) : LayerFrame :=
  match lf.entry.kind with
  | .request _ _ _ => lf
  | _ => { lf with frame := (s.buildFrame lf.entry).getD lf.frame }

/-- The bit at this position of a frame, from its first start bit: position 0 is that start bit, positions 1 to 8 the
arbitration byte, its most significant bit first (R59, R61). -/
def arbitrationBit (f : Frame) (position : Nat) : Bool :=
  position ≠ 0 && (32 * f.cls + f.source.toNat).testBit (8 - position)

/-- The bit at this position of a frame: character `position / 10`, of which bit 0 is the start bit, bits 1 to 8 the data
bits with the most significant first, and bit 9 the stop bit (R59). -/
def frameBit (f : Frame) (position : Nat) : Option Bool :=
  (f.encode[position / 10]?).map fun b =>
    position % 10 ≠ 0 && (position % 10 = 9 || b.getLsbD (8 - position % 10))

/-- These samples of the bit at this position are a bit error of the live frame: in ARBITRATING a 0 of the first nine bits
read as 1 (R74), in SENDING any later bit read with the other value (R58, R76). -/
def wrongBit (tx : Transmitter) (lf : LayerFrame) (position : Nat) (samples : BitSamples) : Prop :=
  (tx.state = .arbitrating ∧ position < 9 ∧ arbitrationBit lf.frame position = false ∧ bitValue samples = true) ∨
  (tx.state = .sending ∧ 9 ≤ position ∧ frameBit lf.frame position = some (!bitValue samples))

/-- A number sent in two bytes, the more significant first (R61). -/
def word (high low : Byte) : Nat := 256 * high.toNat + low.toNat

/-- The codes of the frame tables (04, section 4.3). -/
def bitOf (b : Bool) : Nat := if b then 1 else 0

/-- Point byte, condition field. -/
def conditionNumber : Condition → Nat
  | .normal => 0
  | .disturbed => 1
  | .faulted => 2

/-- Point byte, last direction field. -/
def directionNumber : Option Direction → Nat
  | none => 0
  | some .ab => 1
  | some .ba => 2

/-- The point byte. -/
def pointByteNumber (c : PointContent) : Nat :=
  64 * c.point.val + 32 * bitOf (c.head = .wheelOn) + 16 * bitOf c.start + 4 * conditionNumber c.condition +
    directionNumber c.last

/-- A point byte and the serial and counts that go with it read as this content (04, section 4.3). -/
def pointRead (point serial : Byte) (nAB nBA : Nat) (c : PointContent) : Prop :=
  point.toNat = pointByteNumber c ∧ serial = c.serial ∧ nAB = c.nAB.toNat ∧ nBA = c.nBA.toNat

/-- SECTION STATUS, state field. -/
def stateNumber : SectionState → Nat
  | .disturbed => 0
  | .occupied => 1
  | .proving => 2
  | .settling => 3
  | .clear => 4

/-- SECTION STATUS, cause byte. -/
def causeNumber : Option DisturbanceCause → Nat
  | none => 0
  | some .start => 1
  | some .halt => 2
  | some .underflow => 3
  | some .overflow => 4
  | some .point => 5
  | some .stale => 6
  | some .jump => 7
  | some .restart => 8

/-- SECTION STATUS, outcome field. -/
def outcomeNumber : RestoreOutcome → Nat
  | .none => 0
  | .accepted => 1
  | .refusedState => 2
  | .refusedTerms => 3
  | .refusedMode => 4

/-- The ranges in which R48, R51, R61, R65 and R168 build a frame: stations 1 to 31, 1 to 4 points, a speed of at most
999, a section number of 12 bits, a balance of at most 1023. -/
def buildable : Frame → Prop
  | .countReport source _ _ speed => source ≠ 0 ∧ ∀ v ∈ speed, v ≤ 999
  | .settleAnswer source requester _ _ _ => source ≠ 0 ∧ requester ≠ 0
  | .sectionStatus source _ c => source ≠ 0 ∧ c.number ≤ 4095 ∧ ∀ b ∈ c.balance, b ≤ 1023
  | .settleRequest source _ _ points =>
      source ≠ 0 ∧ 1 ≤ points.length ∧ points.length ≤ 4 ∧ ∀ p ∈ points, p.1 ≠ 0
  | .restoreCommand source target _ _ _ => source ≠ 0 ∧ target ≠ 0

/-- The part at its entry to HALTED: what R182 lists, from the state `s` before to the state `t` after. What the
transmitter does is R79's table, and an answer in a layer that is not SENDING stays there unsent (R136, log 32); at the
entry with cause MUTE the transmitter has been muted already, its layers emptied (R77). -/
def haltedFrom (s t : State) : Prop :=
  t.mode = .halted ∧ t.listeningTimer.running = false ∧ t.loadingTimer.running = false ∧ t.cfgSelectLow = false ∧
  t.front = s.front ∧ t.reference = s.reference ∧ t.records = s.records ∧ t.config = s.config ∧
  t.station = s.station ∧
  t.rx.assembling = false ∧ t.rx.buffer = [] ∧ t.rx.fifo = [] ∧ t.rx.handling = none ∧
  (∀ m, t.mirror.get m = (s.mirror.get m).map fun e => { e with age := { e.age with running := false } }) ∧
  (∀ n, t.sections.get n = (s.sections.get n).map fun sec =>
    if sec.state = .disturbed then sec
    else { sec with
      state := .disturbed, balance := none, cause := some .halt, round := none, holdOff := .stopped }) ∧
  (∀ p, (t.tx.reportTimers.get p).running = false) ∧ (∀ n, (t.tx.statusTimers.get n).running = false) ∧
  t.tx.next = none ∧ t.tx.startCounters = s.tx.startCounters ∧
  (∀ e ∈ s.tx.entries, ∃ g ∈ t.tx.entries, g.kind = e.kind ∧ g.place = e.place ∧ g.cls ≤ e.cls) ∧
  (t.cause ≠ some .mute →
    t.tx.failures = s.tx.failures ∧
    (s.tx.state = .sending → t.tx.state = .sending ∧ t.tx.live = s.tx.live) ∧
    (s.tx.state = .mute → t.tx.state = .mute ∧ t.tx.live = none) ∧
    (s.tx.state ≠ .sending → s.tx.state ≠ .mute → t.tx.state = .quiet ∧ t.tx.live = none) ∧
    t.tx.keptNext = s.tx.next.filter (fun lf => lf.entry.kind.isAnswer) ∧
    (s.tx.state = .sending → t.tx.keptLive = none) ∧
    (s.tx.state ≠ .sending → t.tx.keptLive = s.tx.live.filter fun lf => lf.entry.kind.isAnswer)) ∧
  (t.cause = some .mute → t.tx.keptLive = none ∧ t.tx.keptNext = none) ∧
  (∀ n, t.lines.get n = .low) ∧ t.attn0 = .active ∧ t.attn1 = .active

/-- The bits of a byte, most significant first (R59, R82). -/
def bitsOf (b : Byte) : List Bool := (List.range 8).map fun i => b.getLsbD (7 - i)

/-- Sampled data bits that read as this byte (R58, R82). -/
def reads (data : List BitSamples) (b : Byte) : Prop := data.map bitValue = bitsOf b

/-- A sampled bit whose five samples are all of one level. -/
def steady (one : Bool) : BitSamples :=
  let l := if one then LineLevel.recessive else .dominant
  { s6 := l, s7 := l, s8 := l, s9 := l, s10 := l }

/-- The commands with which a character reaches the receiver: its start bit, then its data bits and stop bit. -/
def characterCommands (b : Byte) : List Instr :=
  [.startBit 16 (steady false), .characterComplete ((bitsOf b).map steady)]

/-- The state after commands taken one after another. -/
def runAll (commands : List Instr) (s : State) : Host.Outcome State Fault Refusal :=
  match commands with
  | [] => .next s
  | c :: rest =>
    match exec c s with
    | .next t => runAll rest t
    | .fault f => .fault f
    | .refused r => .refused r

/-- The receiver with the handler free again: it has taken the oldest waiting frame (R87). -/
def handlerFreed (rx : Receiver) : Receiver :=
  { rx with handling := rx.fifo.head?, fifo := rx.fifo.tail }

/-- The command that names the end of the handling of a frame of this class (R63, R90). -/
def handlerCommand (cls : Nat) : Instr :=
  match cls with
  | 0 => .restoreCommand
  | 1 => .settleAnswer
  | 2 => .settleRequest
  | 3 => .countReport
  | 4 => .sectionStatus
  | 5 => .countReport
  | 6 => .sectionStatus
  | _ => .class7FrameHandled

/-- A section whose terms on this source follow it (R109, step 4). -/
def followed (src : TermSource) (v : SourceView) (sec : Section) : Section :=
  { sec with
    terms := sec.terms.map fun t =>
      if t.source = src then { t with aAB := v.nAB, aBA := v.nBA, aSerial := v.serial } else t }

/-- A section that takes a disturbing event of this source: DISTURBED with the cause, unless it is DISTURBED already,
its terms following (R109, R115, R120). -/
def disturbedBy (cause : DisturbanceCause) (src : TermSource) (v : SourceView) (sec : Section) : Section :=
  if sec.state = .disturbed then followed src v sec
  else
    { followed src v sec with
      state := .disturbed, balance := none, cause := some cause, round := none, holdOff := .stopped }

/-- A term is quiet (R106). -/
def quiet (s : State) (t : Term) : Prop :=
  match t.source with
  | .localPoint p => (s.records.get p).condition = .normal ∧ (s.records.get p).head = .free
  | .mirror m => ∃ e v, s.mirror.get m = some e ∧ e.hold = .fresh v ∧ v.condition = .normal ∧ v.head = .free

/-- The signed contribution of a term whose source shows these values (R111). -/
def contribution (v : SourceView) (t : Term) : Int :=
  let d1 : Int := (((v.nAB.toNat : Int) - t.aAB.toNat) % 65536)
  let d2 : Int := (((v.nBA.toNat : Int) - t.aBA.toNat) % 65536)
  match t.sense with
  | .inwardAB => d1 - d2
  | .inwardBA => d2 - d1

/-- The net contribution of an event of this source (R111). -/
def netOf (src : TermSource) (v : SourceView) (sec : Section) : Int :=
  ((sec.terms.filter fun t => t.source = src).map (contribution v)).sum

/-- A term on this source finds its serial moved or its condition not NORMAL (R116). -/
def moved (src : TermSource) (v : SourceView) (sec : Section) : Prop :=
  v.condition ≠ .normal ∨ ∃ t ∈ sec.terms, t.source = src ∧ t.aSerial ≠ v.serial

/-- The section enters SETTLING: CLEAR at once where every term is local, else with a round (R132, R133). -/
def settled (sec : Section) : Section :=
  if ∀ t ∈ sec.terms, ∃ p, t.source = .localPoint p then { sec with state := .clear }
  else
    { sec with
      state := .settling
      round := some
        { id := sec.rounds
          tag := sec.nextTag
          unanswered := (List.range sec.terms.length).filter fun i => (sec.terms[i]?.map Term.isRemote).getD false
          deadline := { running := true, elapsed := 0 } }
      rounds := sec.rounds + 1
      nextTag := sec.nextTag + 1 }

/-- A change of this slot has been taken up by its status entry or by an unstarted SECTION STATUS of it, of class 4 (R66,
R169). -/
def statusTaken (t : State) (n : Slot) : Prop :=
  (∃ e ∈ t.tx.entries, e.kind = .status n ∧ e.cls = 4) ∨
  ∃ lf, lf.entry.kind = .status n ∧ lf.entry.cls = 4 ∧
    (t.tx.next = some lf ∨ t.tx.state = .waiting ∧ t.tx.live = some lf)

/-- A request for the open round of this slot is pending or in the next layer, with class 2 (R133). -/
def requestHeld (t : State) (n : Slot) (tag : Serial) : Prop :=
  ∃ id place, (⟨.request n id tag, 2, place⟩ : Entry) ∈ t.tx.entries ∨
    ∃ f, t.tx.next = some ⟨⟨.request n id tag, 2, place⟩, f⟩

/-- A term of an ACCEPTED restore: applied and base counts and applied serial take the source (R160). -/
def rebased (s : State) (t : Term) : Term :=
  match s.source t.source with
  | none => t
  | some v => { t with aAB := v.nAB, aBA := v.nBA, bAB := v.nAB, bBA := v.nBA, aSerial := v.serial }

/-- The term at this position is remote and its entry names this station and point (R137). -/
def asksFor (s : State) (sec : Section) (source : Station) (p : PointIndex) (position : Nat) : Prop :=
  ∃ u m e, sec.terms[position]? = some u ∧ u.source = .mirror m ∧ s.mirror.get m = some e ∧ e.station = source ∧
    e.point = p

/-- The entry at this place names the point of a frame, and no other does (R90, R178). -/
def names (s : State) (m : EntryIndex) (e : MirrorEntry) (source : Station) (p : PointIndex) : Prop :=
  s.mirror.get m = some e ∧ e.station = source ∧ e.point = p ∧
    ∀ k f, s.mirror.get k = some f → f.station = source → f.point = p → k = m

/-- The entry after it took a frame (R95). An expiry due at the same instant is overtaken (R99, log 34). -/
def accepted (e : MirrorEntry) (c : PointContent) : MirrorEntry :=
  { e with
    hold := .fresh
      { nAB := c.nAB, nBA := c.nBA, head := c.head, condition := c.condition, serial := c.serial, start := c.start }
    age := { running := true, elapsed := 0 }
    overtaken := e.overtaken || (e.age.running && decide (800000 ≤ e.age.elapsed)) }

/-- The values a frame's point shows its terms. -/
def shown (c : PointContent) : SourceView :=
  { nAB := c.nAB, nBA := c.nBA, head := c.head, condition := c.condition, serial := c.serial, fresh := true }

/-- A count delta (R97). -/
def deltaOf (now before : Count) : Int := ((now.toNat : Int) - before.toNat) % 65536

/-- Byte `i` of an image, as a number. -/
def at1 (image : List Byte) (i : Nat) : Nat := (image.getD i 0).toNat

/-- The two-byte number at `i` of an image. -/
def at2 (image : List Byte) (i : Nat) : Nat := 256 * at1 image i + at1 image (i + 1)

/-- A point record passes the range check and check 9 (R177, R178). -/
def goodPoint (image : List Byte) (p : PointIndex) : Prop :=
  let o := 16 + 12 * p.val
  at1 image o ≤ 1 ∧ (60 ≤ at1 image (o + 1) ∧ at1 image (o + 1) ≤ 250) ∧
    (100 ≤ at2 image (o + 2) ∧ at2 image (o + 2) ≤ 500) ∧
    (∀ k : Fin 4, 25 ≤ at2 image (o + 4 + 2 * k.val) ∧ at2 image (o + 4 + 2 * k.val) ≤ 999) ∧
    at2 image (o + 4) + 16 ≤ at2 image (o + 6) ∧ at2 image (o + 8) + 16 ≤ at2 image (o + 10)

/-- A section record passes the range check and checks 5 to 7 (R177, R178). -/
def goodSection (image : List Byte) (n : Slot) : Prop :=
  let o := 96 + 9 * n.val
  at1 image o = 0 ∨
    (at1 image o = 1 ∧ at1 image (o + 1) ≤ 1 ∧ at2 image (o + 2) ≤ 4095 ∧
      (1 ≤ at1 image (o + 4) ∧ at1 image (o + 4) ≤ 4) ∧
      ∀ i : Fin 4, i.val < at1 image (o + 4) →
        (at1 image (o + 5 + i.val) < 128 → at1 image (o + 5 + i.val) % 16 ≤ 3 ∧
          at1 image (16 + 12 * (at1 image (o + 5 + i.val) % 16)) = 1) ∧
        (128 ≤ at1 image (o + 5 + i.val) → at1 image (64 + 2 * (at1 image (o + 5 + i.val) % 16)) ≠ 0))

/-- An image that passes the ten checks for this station number (R177, R178). -/
def goodImage (station : Station) (image : List Byte) : Prop :=
  at2 image 0 = 0x4F7A ∧ at1 image 2 = 1 ∧ at1 image 3 = station.toNat ∧
    (2 ≤ at1 image 4 ∧ at1 image 4 ≤ 8) ∧ (1 ≤ at1 image 5 ∧ at1 image 5 ≤ 50) ∧ at1 image 7 ≤ 31 ∧
    at1 image 8 ≤ 31 ∧ (∀ p, goodPoint image p) ∧
    (∀ m : EntryIndex, at1 image (64 + 2 * m.val) ≤ 31 ∧ at1 image (65 + 2 * m.val) ≤ 3 ∧
      (at1 image (64 + 2 * m.val) ≠ 0 → at1 image (64 + 2 * m.val) ≠ station.toNat ∧
        ∀ k : EntryIndex, k ≠ m → at1 image (64 + 2 * k.val) = at1 image (64 + 2 * m.val) →
          at1 image (65 + 2 * k.val) ≠ at1 image (65 + 2 * m.val))) ∧
    (∀ n, goodSection image n) ∧ crc image = 0#16

/-- A transition of the table of 10.3: the mode before, the command, the mode after and the halt cause. -/
def transition (s : State) (c : Instr) (t : State) : Prop :=
  ((∃ k, 2 ≤ k ∧ c = .resetAssertion k) ∧ t.mode = .heldInReset ∧ t.cause = none) ∨
  (s.mode = .heldInReset ∧ (∃ straps, straps ≠ 0 ∧ c = .resetRelease straps) ∧ t.mode = .loading) ∨
  (s.mode = .heldInReset ∧ c = .resetRelease 0 ∧ t.mode = .halted ∧ t.cause = some .config) ∨
  (s.mode = .loading ∧ (∃ levels, c = .configurationReadComplete levels) ∧ t.mode = .halted ∧
    t.cause = some .config) ∨
  (s.mode = .loading ∧ c = .loadingTimerExpiry ∧ s.config.isSome = true ∧ t.mode = .listening) ∨
  (s.mode = .listening ∧ c = .listeningTimerExpiry ∧ t.mode = .running) ∨
  (s.mode.listens = true ∧ (∃ data, c = .receiverFrameComplete data ∨ c = .characterComplete data) ∧
    t.mode = .halted ∧ t.cause = some .clash) ∨
  (s.mode = .running ∧ (∃ position samples, c = .mute position samples ∨ c = .bitError position samples) ∧
    t.mode = .halted ∧ t.cause = some .mute)

end Sys2Proof.Claims

open Sys2Proof.Claims

/-! ## The step and the queue -/

/-- A step takes the command at the front of the queue and runs it with the queue's rest. -/
def Obligations.StepRunsFrontCommand : Prop :=
  ∀ (c : Instr) (rest : List Instr) (s : State),
    step { s with pending := c :: rest } = exec c { s with pending := rest }

/-- No command ever stops the part, and none touches the queue of waiting commands. That a command whose event has not come
about answers the state as it stands, and that a reset keeps the queue, is the model's choice (log 3, log 25). -/
def Obligations.EveryCommandCompletes : Prop :=
  ∀ (c : Instr) (s : State), ∃ t, exec c s = .next t ∧ t.pending = s.pending

/-- The model's choice (log 1, log 30): on an empty queue a step puts what the transmitter does at once on the queue (R68,
R69); else one microsecond passes: every running timer advances, the idle count of a recessive line grows, the commands of
what runs out are queued, the instant of an overtaken age expiry is past (log 34), and everything else stands as it stood. -/
def Obligations.IdleStepKeepsState : Prop :=
  ∀ s : State, s.pending = [] →
    (s.mode = .running → s.tx.live = none → s.tx.next ≠ none → s.tx.state = .quiet →
      step s = .next { s with pending := [.liveLayerMove] }) ∧
    (s.mode = .running → s.tx.next = none → s.tx.entries ≠ [] →
      step s = .next { s with pending := [.nextLayerLoad] }) ∧
    (¬ (s.mode = .running ∧ (s.tx.live = none ∧ s.tx.next ≠ none ∧ s.tx.state = .quiet ∨
        s.tx.next = none ∧ s.tx.entries ≠ [])) →
      ∃ t, step s = .next t ∧
        t = { s with
              pending := t.pending, cfgClock := t.cfgClock
              loadingTimer := advanced 4000 s.loadingTimer, listeningTimer := advanced 1200000 s.listeningTimer
              tx := { s.tx with reportTimers := t.tx.reportTimers, statusTimers := t.tx.statusTimers }
              rx := { s.rx with idleCount := t.rx.idleCount }, mirror := t.mirror, sections := t.sections } ∧
        t.cfgClock = (if s.cfgSelectLow = true then min (s.cfgClock + 1) 2064 else s.cfgClock) ∧
        (∀ p, t.tx.reportTimers.get p = advanced 100000 (s.tx.reportTimers.get p)) ∧
        (∀ n, t.tx.statusTimers.get n = advanced 500000 (s.tx.statusTimers.get n)) ∧
        t.rx.idleCount =
          (if s.mode.listens = true ∧ s.rx.inCharacter = false ∧ s.tx.state ≠ .arbitrating ∧ s.tx.state ≠ .sending ∧
            s.rx.idleCount + 1 < 12 then s.rx.idleCount + 1 else s.rx.idleCount) ∧
        (∀ m, t.mirror.get m = (s.mirror.get m).map fun e =>
          { e with age := advanced 800000 e.age, overtaken := false }) ∧
        (∀ n, t.sections.get n = (s.sections.get n).map fun sec => { sec with
          holdOff := advanced 100000 sec.holdOff
          round := sec.round.map fun r => { r with deadline := advanced 300000 r.deadline } }) ∧
        (.loadingTimerExpiry ∈ t.pending ↔ runsOut 4000 s.loadingTimer) ∧
        (.listeningTimerExpiry ∈ t.pending ↔ runsOut 1200000 s.listeningTimer) ∧
        (∀ p, .reportTimerExpiry p ∈ t.pending ↔ runsOut 100000 (s.tx.reportTimers.get p)) ∧
        (∀ n, .statusTimerExpiry n ∈ t.pending ↔ runsOut 500000 (s.tx.statusTimers.get n)) ∧
        (∀ m, .ageTimerExpiry m ∈ t.pending ↔ ∃ e, s.mirror.get m = some e ∧ runsOut 800000 e.age) ∧
        (∀ n, .deadlineExpiry n ∈ t.pending ↔
          ∃ sec r, s.sections.get n = some sec ∧ sec.round = some r ∧ runsOut 300000 r.deadline) ∧
        (∀ n, .holdOffExpiry n ∈ t.pending ↔ ∃ sec, s.sections.get n = some sec ∧ runsOut 100000 sec.holdOff) ∧
        (.idleCompletion ∈ t.pending ↔
          s.mode.listens = true ∧ s.rx.inCharacter = false ∧ s.tx.state ≠ .arbitrating ∧ s.tx.state ≠ .sending ∧
            12 ≤ s.rx.idleCount + 1))

/-! ## Front end -/

/-- R3, for any configuration that passes the checks: the raw level against TD and TR, held in the band between. -/
def Obligations.RawLevelFollowsThresholds : Prop :=
  (∀ p ch, (State.reset.channel p ch).raw = .free) ∧
  ∀ (s : State) (r : Results) (p : PointIndex) (ch : ChannelName) (cfg : PointConfig),
    s.mode.listens = true → s.pointConfig p = some cfg → 25 ≤ td cfg ch → td cfg ch + 16 ≤ tr cfg ch →
    tr cfg ch ≤ 999 →
    ∃ t, exec (.sweepCompletion r) s = .next t ∧
      ((resultOf r p ch).val ≤ td cfg ch → (t.channel p ch).raw = .damped) ∧
      (tr cfg ch ≤ (resultOf r p ch).val → (t.channel p ch).raw = .free) ∧
      (td cfg ch < (resultOf r p ch).val → (resultOf r p ch).val < tr cfg ch →
        (t.channel p ch).raw = (s.channel p ch).raw) ∧
      ((resultOf r p ch).val ≤ 23 → (t.channel p ch).raw = .damped) ∧
      (1001 ≤ (resultOf r p ch).val → (t.channel p ch).raw = .free)

/-- R4 and R5: run counter, filtered level and onset age at a sweep completion, from the raw level after it. -/
def Obligations.FilteredLevelAndOnsetAge : Prop :=
  (∀ p ch, (State.reset.channel p ch).filtered = .free ∧ (State.reset.channel p ch).run = 0 ∧
    (State.reset.channel p ch).onset = 0) ∧
  ∀ (s : State) (r : Results) (p : PointIndex) (ch : ChannelName),
    s.mode.listens = true → s.pointInUse p = true →
    ∃ t, exec (.sweepCompletion r) s = .next t ∧
      ((t.channel p ch).raw = (s.channel p ch).filtered →
        (t.channel p ch).run = 0 ∧ (t.channel p ch).filtered = (s.channel p ch).filtered) ∧
      ((t.channel p ch).raw ≠ (s.channel p ch).filtered → (s.channel p ch).run + 1 = s.deb →
        (t.channel p ch).run = 0 ∧ (t.channel p ch).filtered = (t.channel p ch).raw) ∧
      ((t.channel p ch).raw ≠ (s.channel p ch).filtered → (s.channel p ch).run + 1 ≠ s.deb →
        (t.channel p ch).run = (s.channel p ch).run + 1 ∧ (t.channel p ch).filtered = (s.channel p ch).filtered) ∧
      ((s.channel p ch).run < s.deb → (t.channel p ch).run < s.deb) ∧
      ((s.channel p ch).filtered = .free → (t.channel p ch).filtered = .damped →
        (t.channel p ch).onset = s.deb - 1) ∧
      ((s.channel p ch).filtered = .damped → (t.channel p ch).filtered = .damped →
        (t.channel p ch).onset = min ((s.channel p ch).onset + 1) 65535) ∧
      ((t.channel p ch).filtered = .free → (t.channel p ch).onset = 0)

/-- R4 and R5: FILTERED_LEVEL_CHANGE is the completion of the DEB-th sweep of a run; where the results do not complete
a run, the event has not come about and nothing changes (log 3, log 4). -/
def Obligations.FilteredLevelChangeCompletes : Prop :=
  ∀ (s : State) (r : Results) (p : PointIndex) (ch : ChannelName) (cfg : PointConfig),
    s.mode.listens = true → s.pointConfig p = some cfg →
    ((s.channel p ch).run + 1 = s.deb →
      classify (td cfg ch) (tr cfg ch) (resultOf r p ch) (s.channel p ch).raw ≠ (s.channel p ch).filtered →
      ∃ t, exec (.filteredLevelChange r p ch) s = .next t ∧ exec (.sweepCompletion r) s = .next t ∧
        (t.channel p ch).sample = some (resultOf r p ch) ∧
        (t.channel p ch).filtered ≠ (s.channel p ch).filtered ∧
        (t.channel p ch).filtered = (t.channel p ch).raw ∧ (t.channel p ch).run = 0 ∧
        (t.channel p ch).onset = match (t.channel p ch).filtered with
          | .damped => s.deb - 1
          | .free => 0) ∧
    ((s.channel p ch).run + 1 ≠ s.deb → exec (.filteredLevelChange r p ch) s = .next s)

/-- R7 and R8: a channel's health and window counter at a sweep completion, for every sample. -/
def Obligations.ChannelSupervision : Prop :=
  (∀ p ch, (State.reset.channel p ch).health = .ok ∧ (State.reset.channel p ch).window = 0) ∧
  ∀ (s : State) (r : Results) (p : PointIndex) (ch : ChannelName),
    s.mode.listens = true → s.pointInUse p = true →
    ∃ t, exec (.sweepCompletion r) s = .next t ∧
      ((s.channel p ch).health = .ok → inWindow (resultOf r p ch) →
        (t.channel p ch).health = .ok ∧ (t.channel p ch).window = 0) ∧
      ((s.channel p ch).health = .ok → ¬ inWindow (resultOf r p ch) → (s.channel p ch).window + 1 = 50 →
        (t.channel p ch).health = .faulted ∧ (t.channel p ch).window = 0) ∧
      ((s.channel p ch).health = .ok → ¬ inWindow (resultOf r p ch) → (s.channel p ch).window + 1 ≠ 50 →
        (t.channel p ch).health = .ok ∧ (t.channel p ch).window = (s.channel p ch).window + 1) ∧
      ((s.channel p ch).health = .faulted → ¬ inWindow (resultOf r p ch) →
        (t.channel p ch).health = .faulted ∧ (t.channel p ch).window = 0) ∧
      ((s.channel p ch).health = .faulted → inWindow (resultOf r p ch) → (s.channel p ch).window + 1 = 25000 →
        (t.channel p ch).health = .ok ∧ (t.channel p ch).window = 0) ∧
      ((s.channel p ch).health = .faulted → inWindow (resultOf r p ch) → (s.channel p ch).window + 1 ≠ 25000 →
        (t.channel p ch).health = .faulted ∧ (t.channel p ch).window = (s.channel p ch).window + 1)

/-- R10 and R11: the reference's health and window counter at a sweep completion, whether or not a point is in use. -/
def Obligations.ReferenceSupervision : Prop :=
  (State.reset.reference.health = .ok ∧ State.reset.reference.window = 0) ∧
  ∀ (s : State) (r : Results), s.mode.listens = true →
    ∃ t, exec (.sweepCompletion r) s = .next t ∧ t.reference.sample = some r.reference ∧
      (s.reference.health = .ok → inBand r.reference →
        t.reference.health = .ok ∧ t.reference.window = 0) ∧
      (s.reference.health = .ok → ¬ inBand r.reference → s.reference.window + 1 = 50 →
        t.reference.health = .faulted ∧ t.reference.window = 0) ∧
      (s.reference.health = .ok → ¬ inBand r.reference → s.reference.window + 1 ≠ 50 →
        t.reference.health = .ok ∧ t.reference.window = s.reference.window + 1) ∧
      (s.reference.health = .faulted → ¬ inBand r.reference →
        t.reference.health = .faulted ∧ t.reference.window = 0) ∧
      (s.reference.health = .faulted → inBand r.reference → s.reference.window + 1 = 25000 →
        t.reference.health = .ok ∧ t.reference.window = 0) ∧
      (s.reference.health = .faulted → inBand r.reference → s.reference.window + 1 ≠ 25000 →
        t.reference.health = .faulted ∧ t.reference.window = s.reference.window + 1)

/-- R7, R8, R24, R33, R34, R35: CHANNEL_FAULTED is the 50th sweep outside the window and CHANNEL_RECOVERED the 25,000th
inside it, each with what the point's record makes of it. That each names the whole sweep completion is the model's
(log 4). -/
def Obligations.ChannelFaultCommands : Prop :=
  ∀ (s : State) (r : Results) (p : PointIndex) (ch : ChannelName),
    s.mode.listens = true → s.pointInUse p = true →
    ((s.channel p ch).health = .ok → ¬ inWindow (resultOf r p ch) → (s.channel p ch).window = 49 →
      ∃ t, exec (.channelFaulted r p ch) s = .next t ∧ exec (.sweepCompletion r) s = .next t ∧
        (t.channel p ch).health = .faulted ∧ (t.channel p ch).window = 0 ∧
        (t.records.get p).state = .blocked ∧ (t.records.get p).condition = .faulted ∧
        (t.records.get p).head = .wheelOn ∧ (t.records.get p).dwell = 0 ∧
        (t.records.get p).nAB = (s.records.get p).nAB ∧ (t.records.get p).nBA = (s.records.get p).nBA ∧
        (t.records.get p).last = (s.records.get p).last ∧
        ((s.records.get p).condition = .normal → (t.records.get p).serial = (s.records.get p).serial + 1) ∧
        ((s.records.get p).condition ≠ .normal → (t.records.get p).serial = (s.records.get p).serial)) ∧
    ((s.channel p ch).health = .faulted → inWindow (resultOf r p ch) → (s.channel p ch).window = 24999 →
      ∃ t, exec (.channelRecovered r p ch) s = .next t ∧ exec (.sweepCompletion r) s = .next t ∧
        (t.channel p ch).health = .ok ∧ (t.channel p ch).window = 0 ∧
        ((t.records.get p).condition = .faulted ↔ ¬ healthy t p))

/-- R10, R11, R12, R24, R33: REFERENCE_FAULTED is the 50th sweep out of band and blocks every point in use;
REFERENCE_RECOVERED is the 25,000th in band, and each channel shows the health it has kept. That each names the whole sweep
completion is the model's (log 4). -/
def Obligations.ReferenceFaultCommands : Prop :=
  ∀ (s : State) (r : Results), s.mode.listens = true →
    (s.reference.health = .ok → ¬ inBand r.reference → s.reference.window = 49 →
      ∃ t, exec (.referenceFaulted r) s = .next t ∧ exec (.sweepCompletion r) s = .next t ∧
        t.reference.health = .faulted ∧ t.reference.window = 0 ∧
        ∀ p, s.pointInUse p = true →
          (t.records.get p).state = .blocked ∧ (t.records.get p).condition = .faulted ∧
          (t.records.get p).head = .wheelOn ∧
          ((s.records.get p).condition = .normal → (t.records.get p).serial = (s.records.get p).serial + 1)) ∧
    (s.reference.health = .faulted → inBand r.reference → s.reference.window = 24999 →
      ∃ t, exec (.referenceRecovered r) s = .next t ∧ exec (.sweepCompletion r) s = .next t ∧
        t.reference.health = .ok ∧ t.reference.window = 0 ∧
        ∀ p, s.pointInUse p = true → ((t.records.get p).condition = .faulted ↔
          (t.front.get p).a.health = .faulted ∨ (t.front.get p).b.health = .faulted))

/-- R13 and R37, as noninterference: what the inputs of points not in use present reaches nothing but their own
samples. -/
def Obligations.UnusedInputsHaveNoEffect : Prop :=
  ∀ (s : State) (r q : Results), r.reference = q.reference →
    (∀ p, s.pointInUse p = true → sameInUse p r q) →
    ∃ t u, exec (.sweepCompletion r) s = .next t ∧ exec (.sweepCompletion q) s = .next u ∧
      t = { u with front := t.front } ∧ (∀ p, s.pointInUse p = true → t.front.get p = u.front.get p) ∧
      ∀ p, s.pointInUse p = false →
        { (t.front.get p).a with sample := none } = { (s.front.get p).a with sample := none } ∧
        { (t.front.get p).b with sample := none } = { (s.front.get p).b with sample := none } ∧
        t.records.get p = s.records.get p

/-! ## Recognizers -/

/-- R20, R21, R22 with R23, R26, R27, R28: every row of the pair tables, with the levels as they stand after the
completion. An entry to BLOCKED clears the dwell counter. -/
def Obligations.PairTablesHold : Prop :=
  pairTable.length = 28 ∧
  ∀ (s : State) (r : Results) (p : PointIndex) (row : PairRow),
    s.mode.listens = true → s.pointInUse p = true → row ∈ pairTable → (s.records.get p).state = row.source →
    ∃ t, exec (.sweepCompletion r) s = .next t ∧
      (healthy t p → (t.front.get p).a.filtered = row.a → (t.front.get p).b.filtered = row.b →
        (t.records.get p).state = row.target ∧
        (t.records.get p).lag = match row.effect with
          | .keep => (s.records.get p).lag
          | .capture => if row.source = .leadA then some (lagOf (t.front.get p).a.onset (t.front.get p).b.onset)
              else some (lagOf (t.front.get p).b.onset (t.front.get p).a.onset)
          | .drop => none
          | .count => none
          | .block => none) ∧
      (healthy t p → (t.front.get p).a.filtered = row.a → (t.front.get p).b.filtered = row.b → row.effect = .block →
        (t.records.get p).dwell = 0)

/-- R26, R29, R30, R31: counts, last passage and overspeed at a completion. A passage is counted exactly where a
recognizer in TRAIL finds (f, f) with all healths OK. -/
def Obligations.PassagesAreCounted : Prop :=
  ∀ (s : State) (r : Results) (p : PointIndex) (cfg : PointConfig) (lag : Nat),
    s.mode.listens = true → s.pointConfig p = some cfg → (s.records.get p).lag = some lag →
    ∃ t, exec (.sweepCompletion r) s = .next t ∧
      (healthy t p → (t.front.get p).a.filtered = .free → (t.front.get p).b.filtered = .free →
        (s.records.get p).state = .trailA →
          (t.records.get p).state = .idle ∧
          (t.records.get p).nAB = (s.records.get p).nAB + 1 ∧ (t.records.get p).nBA = (s.records.get p).nBA ∧
          (t.records.get p).last = some ⟨.ab, min (speedOf cfg.spacing lag) 999⟩ ∧
          ((s.records.get p).condition = .normal → (t.records.get p).serial =
            if cfg.vmax < speedOf cfg.spacing lag then (s.records.get p).serial + 1 else (s.records.get p).serial)) ∧
      (healthy t p → (t.front.get p).a.filtered = .free → (t.front.get p).b.filtered = .free →
        (s.records.get p).state = .trailB →
          (t.records.get p).state = .idle ∧
          (t.records.get p).nBA = (s.records.get p).nBA + 1 ∧ (t.records.get p).nAB = (s.records.get p).nAB ∧
          (t.records.get p).last = some ⟨.ba, min (speedOf cfg.spacing lag) 999⟩ ∧
          ((s.records.get p).condition = .normal → (t.records.get p).serial =
            if cfg.vmax < speedOf cfg.spacing lag then (s.records.get p).serial + 1 else (s.records.get p).serial))

/-- R26: no other completion, and no other command but reset, changes a count or the last passage. -/
def Obligations.CountsChangeOnlyAtPassages : Prop :=
  ∀ (c : Instr) (s t : State) (p : PointIndex), exec c s = .next t →
    ((t.records.get p).nAB ≠ (s.records.get p).nAB ∨ (t.records.get p).nBA ≠ (s.records.get p).nBA ∨
      (t.records.get p).last ≠ (s.records.get p).last) →
    (∃ k, c = .resetAssertion k) ∨
      (s.pointInUse p = true ∧ s.mode.listens = true ∧ healthy t p ∧ (t.records.get p).state = .idle ∧
        (t.front.get p).a.filtered = .free ∧ (t.front.get p).b.filtered = .free ∧
        ((s.records.get p).state = .trailA ∧ (t.records.get p).nAB = (s.records.get p).nAB + 1 ∧
            (t.records.get p).nBA = (s.records.get p).nBA ∨
          (s.records.get p).state = .trailB ∧ (t.records.get p).nBA = (s.records.get p).nBA + 1 ∧
            (t.records.get p).nAB = (s.records.get p).nAB))

/-- R33, R34, R35: condition, head and serial of an in-use point after a completion, from its state and what the front
end handed over. Where the condition is NORMAL before and after, the serial is kept but at an overspeed passage. -/
def Obligations.ConditionHeadAndSerial : Prop :=
  ∀ (s : State) (r : Results) (p : PointIndex), s.mode.listens = true → s.pointInUse p = true →
    ∃ t, exec (.sweepCompletion r) s = .next t ∧
      ((t.records.get p).condition = .faulted ↔ ¬ healthy t p) ∧
      ((t.records.get p).condition = .disturbed ↔ healthy t p ∧ (t.records.get p).state = .blocked) ∧
      ((t.records.get p).condition = .normal ↔ healthy t p ∧ (t.records.get p).state ≠ .blocked) ∧
      ((t.records.get p).state = .idle → (t.records.get p).head = .free) ∧
      (inPassage (t.records.get p).state → (t.records.get p).head = .wheelOn) ∧
      ((t.records.get p).state = .blocked → ((t.records.get p).head = .wheelOn ↔
        (t.front.get p).a.filtered = .damped ∨ (t.front.get p).b.filtered = .damped ∨
          (t.records.get p).condition = .faulted)) ∧
      ((s.records.get p).condition = .normal → (t.records.get p).condition ≠ .normal →
        (t.records.get p).serial = (s.records.get p).serial + 1) ∧
      ((s.records.get p).condition ≠ .normal → (s.records.get p).state = .blocked →
        (t.records.get p).serial = (s.records.get p).serial) ∧
      ∀ cfg, s.pointConfig p = some cfg → (s.records.get p).condition = .normal →
        (t.records.get p).condition = .normal →
        ¬ (((s.records.get p).state = .trailA ∨ (s.records.get p).state = .trailB) ∧ (t.records.get p).state = .idle ∧
          ∃ lag, (s.records.get p).lag = some lag ∧ cfg.vmax < speedOf cfg.spacing lag) →
        (t.records.get p).serial = (s.records.get p).serial

/-- R23, R24, R25: a fault enters BLOCKED whatever the pair, and the dwell counts quiet completions alone. -/
def Obligations.BlockedAndDwell : Prop :=
  ∀ (s : State) (r : Results) (p : PointIndex), s.mode.listens = true → s.pointInUse p = true →
    ∃ t, exec (.sweepCompletion r) s = .next t ∧
      ((s.records.get p).state ≠ .blocked → ¬ healthy t p →
        (t.records.get p).state = .blocked ∧ (t.records.get p).lag = none ∧ (t.records.get p).dwell = 0 ∧
        (t.records.get p).nAB = (s.records.get p).nAB ∧ (t.records.get p).nBA = (s.records.get p).nBA ∧
        (t.records.get p).last = (s.records.get p).last) ∧
      ((s.records.get p).state = .blocked →
        ¬ (healthy t p ∧ (t.front.get p).a.filtered = .free ∧ (t.front.get p).b.filtered = .free) →
        (t.records.get p).state = .blocked ∧ (t.records.get p).dwell = 0) ∧
      ((s.records.get p).state = .blocked →
        healthy t p → (t.front.get p).a.filtered = .free → (t.front.get p).b.filtered = .free →
        (s.records.get p).dwell + 1 ≠ s.dwellLength →
        (t.records.get p).state = .blocked ∧ (t.records.get p).dwell = (s.records.get p).dwell + 1)

/-- R25: DWELL_END, where this completion is quiet and brings the dwell counter to 5000 × c sweeps. That it names the
whole sweep completion is the model's (log 4). -/
def Obligations.DwellEndCompletes : Prop :=
  ∀ (s : State) (r : Results) (p : PointIndex) (c : LoadedConfig), s.mode.listens = true → s.config = some c →
    s.pointInUse p = true → (s.records.get p).state = .blocked →
    healthy (s.sweepFront r) p → ((s.sweepFront r).front.get p).a.filtered = .free →
    ((s.sweepFront r).front.get p).b.filtered = .free → (s.records.get p).dwell + 1 = 5000 * c.dwellCode →
    ∃ t, exec (.dwellEnd r p) s = .next t ∧ exec (.sweepCompletion r) s = .next t ∧
      (t.records.get p).state = .idle ∧ (t.records.get p).dwell = 0 ∧ (t.records.get p).condition = .normal ∧
      (t.records.get p).head = .free ∧ (t.records.get p).nAB = (s.records.get p).nAB ∧
      (t.records.get p).nBA = (s.records.get p).nBA ∧ (t.records.get p).last = (s.records.get p).last ∧
      (t.records.get p).serial = (s.records.get p).serial

/-- R15, R16, R36 to R38, R108, R109: what a sweep completion can change, and that there is none outside LISTENING and
RUNNING. A section whose local terms show no change is kept; one that a single changed point reaches takes the evaluation
of that point change, on the records as they stand after the completion. -/
def Obligations.SweepFrame : Prop :=
  ∀ (s : State) (r : Results),
    (s.mode.listens = false → exec (.sweepCompletion r) s = .next s) ∧
    ∃ t, exec (.sweepCompletion r) s = .next t ∧
      t = { s with
            front := t.front, reference := t.reference, records := t.records, tx := t.tx, sections := t.sections,
            lines := t.lines, attn0 := t.attn0, attn1 := t.attn1, draws := t.draws } ∧
      t.tx.state = s.tx.state ∧ t.tx.failures = s.tx.failures ∧ t.tx.startCounters = s.tx.startCounters ∧
      t.tx.live.isSome = s.tx.live.isSome ∧
      (s.tx.state ≠ .waiting → t.tx.live = s.tx.live) ∧
      (∀ n, (t.sections.get n).map (fun sec => (sec.number, sec.direct, sec.restoreSerial, sec.restoreOutcome)) =
        (s.sections.get n).map (fun sec => (sec.number, sec.direct, sec.restoreSerial, sec.restoreOutcome))) ∧
      (∀ n, (∀ sec p, s.sections.get n = some sec → recordChanged (s.records.get p) (t.records.get p) →
          sec.uses (.localPoint p) = false) →
        t.sections.get n = s.sections.get n) ∧
      ∀ n sec p, s.sections.get n = some sec → recordChanged (s.records.get p) (t.records.get p) →
        sec.uses (.localPoint p) = true →
        (∀ q, q ≠ p → recordChanged (s.records.get q) (t.records.get q) → sec.uses (.localPoint q) = false) →
        t.sections.get n = some (t.evaluateSection none (.localPoint p) sec)

/-! ## Transmitter -/

/-- R43 to R46, R169: a point change in RUNNING is taken up by an entry of the point or by an unstarted frame of the point,
of class 3, that carries the record as it now stands, and a section change by a status of class 4; in LISTENING neither
makes anything due. -/
def Obligations.PointChangeIsReported : Prop :=
  ∀ (s : State) (r : Results) (p : PointIndex),
    SectionsKept s → PendingSound s → TxSound s → FramesCurrent s →
    ∃ t, exec (.sweepCompletion r) s = .next t ∧
      (s.mode = .running → pointChanged (s.records.get p) (t.records.get p) = true →
        (∃ e ∈ t.tx.entries, e.kind = .report p ∧ e.cls = 3) ∨
        ∃ lf, lf.entry.kind = .report p ∧ lf.entry.cls = 3 ∧ t.buildFrame lf.entry = some lf.frame ∧
          (t.tx.next = some lf ∨ t.tx.state = .waiting ∧ t.tx.live = some lf)) ∧
      (s.mode = .running → ∀ n, sectionMoved (s.sections.get n) (t.sections.get n) → statusTaken t n) ∧
      (s.mode = .listening → t.tx = s.tx)

/-- R42, R44, R45, R46: REPORT_TIMER_EXPIRY with a report entry pending, with an unstarted report in a layer, with
neither; and, with neither, before a frame of a class above 5 in the next layer, which it preempts (R71) and which returns
to the list by R67, with a pending entry of its key or without. In every case the report is held and nothing pending is
below the next layer's class. Where an entry is pending and a frame unstarted at once, the restarted timer is the model's
choice (log 24). -/
def Obligations.ReportTimerExpiryCompletes : Prop :=
  ∀ (s : State) (p : PointIndex), s.mode = .running → (s.tx.reportTimers.get p).running = true →
    (nextIsLowest s.tx →
      ((∃ e ∈ s.tx.entries, e.kind = .report p) → ¬ heldUnstarted s.tx (.report p) →
        exec (.reportTimerExpiry p) s =
          .next (s.withTx { s.tx with reportTimers := s.tx.reportTimers.set p .stopped })) ∧
      (heldUnstarted s.tx (.report p) →
        exec (.reportTimerExpiry p) s =
          .next (s.withTx { s.tx with reportTimers := s.tx.reportTimers.set p .started })) ∧
      ((∀ e ∈ s.tx.entries, e.kind ≠ .report p) → ¬ heldUnstarted s.tx (.report p) → notPreempted s.tx 5 →
        exec (.reportTimerExpiry p) s =
          .next (s.withTx { s.tx with
            reportTimers := s.tx.reportTimers.set p .stopped
            entries := s.tx.entries ++ [⟨.report p, 5, s.tx.nextPlace⟩]
            nextPlace := s.tx.nextPlace + 1 }))) ∧
    ((∀ e ∈ s.tx.entries, e.kind ≠ .report p ∧ 5 < e.cls) → ¬ heldUnstarted s.tx (.report p) →
      ∀ lf : LayerFrame, s.tx.next = some lf → 5 < lf.entry.cls →
        ∃ t f, exec (.reportTimerExpiry p) s = .next t ∧
          t.tx.next = some ⟨⟨.report p, 5, s.tx.nextPlace⟩, f⟩ ∧
          s.buildFrame ⟨.report p, 5, s.tx.nextPlace⟩ = some f ∧ returnedTo s lf t.tx.entries ∧
          t.tx.reportTimers = s.tx.reportTimers.set p .started ∧ t.tx.live = s.tx.live) ∧
    ∃ t, exec (.reportTimerExpiry p) s = .next t ∧ isHeld t.tx (.report p) ∧ nextIsLowest t.tx

/-- R66, R170: STATUS_TIMER_EXPIRY with a status entry pending, with an unstarted status in a layer, with neither. In every
case the status of a slot in use is held and nothing pending is below the next layer's class. Where an entry is pending and
a frame unstarted at once, the restarted timer is the model's choice (log 24). -/
def Obligations.StatusTimerExpiryCompletes : Prop :=
  ∀ (s : State) (n : Slot), s.mode = .running → (s.tx.statusTimers.get n).running = true →
    (nextIsLowest s.tx →
      ((∃ e ∈ s.tx.entries, e.kind = .status n) → ¬ heldUnstarted s.tx (.status n) →
        exec (.statusTimerExpiry n) s =
          .next (s.withTx { s.tx with statusTimers := s.tx.statusTimers.set n .stopped })) ∧
      (heldUnstarted s.tx (.status n) →
        exec (.statusTimerExpiry n) s =
          .next (s.withTx { s.tx with statusTimers := s.tx.statusTimers.set n .started })) ∧
      ((∀ e ∈ s.tx.entries, e.kind ≠ .status n) → ¬ heldUnstarted s.tx (.status n) → notPreempted s.tx 6 →
        exec (.statusTimerExpiry n) s =
          .next (s.withTx { s.tx with
            statusTimers := s.tx.statusTimers.set n .stopped
            entries := s.tx.entries ++ [⟨.status n, 6, s.tx.nextPlace⟩]
            nextPlace := s.tx.nextPlace + 1 }))) ∧
    ((s.sections.get n).isSome = true →
      ∃ t, exec (.statusTimerExpiry n) s = .next t ∧ isHeld t.tx (.status n) ∧ nextIsLowest t.tx)

/-- R68, R42, R170: NEXT_LAYER_LOAD takes the earliest entry of the lowest class number present, builds its frame from the
state, and restarts the timer of a report or a status. R48, R49, R51, R134, R168: what a frame is built from, here and at
every refresh: this station, the class of the entry, and every field from the point, the round or the slot as it stands. An
entry is built unless it names a slot not in use. -/
def Obligations.NextLayerLoadCompletes : Prop :=
  (∀ (s : State) (own : Station) (e : Entry), s.station = some own → e.kind.mayHold e.cls →
    (∀ f, s.buildFrame e = some f → builtFrom s own e.kind f ∧ f.source = own ∧ f.cls = e.cls) ∧
    (s.buildFrame e = none ↔
      ∃ n, s.sections.get n = none ∧ (e.kind = .status n ∨ ∃ id tag, e.kind = .request n id tag))) ∧
  ∀ (s : State) (before after : List Entry) (e : Entry) (f : Frame),
    s.mode = .running → s.tx.next = none → s.tx.entries = before ++ e :: after →
    (∀ g ∈ before, e.cls < g.cls) → (∀ g ∈ after, e.cls ≤ g.cls ∧ g ≠ e) → s.buildFrame e = some f →
    exec .nextLayerLoad s =
      .next (s.withTx { s.tx with
        entries := before ++ after
        next := some ⟨e, f⟩
        reportTimers := (timersAfterLoad s.tx e.kind).1
        statusTimers := (timersAfterLoad s.tx e.kind).2 })

/-- R69, R60, R73, R83: LIVE_LAYER_MOVE and IDLE_COMPLETION, with the WAITING frame that an idle completion starts and the
unfinished frame it discards. Clearing `sent` is the model's (log 11). -/
def Obligations.MoveAndIdleComplete : Prop :=
  (∀ (s : State) (lf : LayerFrame), s.mode = .running → s.tx.live = none → s.tx.next = some lf →
    s.tx.state = .quiet →
    exec .liveLayerMove s = .next (s.withTx { s.tx with live := some lf, next := none, state := .waiting })) ∧
  ∀ s : State, s.mode.listens = true → s.rx.inCharacter = false →
    exec .idleCompletion s = .next { s with
      rx := { s.rx with idleCount := 12, assembling := false, buffer := [], sent := none }
      tx := { s.tx with state :=
        if s.mode = .running ∧ s.tx.state = .waiting then .arbitrating else s.tx.state } }

/-- R58, R74: ARBITRATION_WON with nine bits read back as sent, and LOST_ARBITRATION at a data bit that the part sends as 1
and reads back as 0: back to WAITING, refreshed, the failure count left as it is. Bits that show neither do nothing
(log 3). -/
def Obligations.ArbitrationCompletes : Prop :=
  ∀ (s : State) (lf : LayerFrame), s.mode = .running → s.tx.state = .arbitrating → s.tx.live = some lf →
    (∀ bits : List BitSamples, bits.length = 9 →
      ((∀ i : Fin 9, bits[i.val]?.map bitValue = some (arbitrationBit lf.frame i.val)) →
        exec (.arbitrationWon bits) s = .next (s.withTx { s.tx with state := .sending })) ∧
      ((∃ i : Fin 9, bits[i.val]?.map bitValue = some (!arbitrationBit lf.frame i.val)) →
        exec (.arbitrationWon bits) s = .next s)) ∧
    ∀ (bit : Fin 8) (samples : BitSamples),
      let sent := (32 * lf.frame.cls + lf.frame.source.toNat).testBit bit.val
      (sent = true → bitValue samples = false →
        exec (.lostArbitration bit samples) s =
          .next (s.withTx { s.tx with state := .waiting, live := some (refreshed s lf) })) ∧
      (sent = false ∨ bitValue samples = true → exec (.lostArbitration bit samples) s = .next s)

/-- R58, R74, R76, R79: BIT_ERROR at a 0 of the start bit or arbitration byte read as 1 in ARBITRATING, and at any later bit
read with the other value in SENDING, below the sixteenth failure; and in HALTED, where the frame is not retried. A bit
that shows no error does nothing (log 3). -/
def Obligations.BitErrorCompletes : Prop :=
  ∀ (s : State) (lf : LayerFrame) (position : Nat) (samples : BitSamples), s.tx.live = some lf →
    (s.mode = .running → s.tx.failures + 1 < 16 → wrongBit s.tx lf position samples →
      exec (.bitError position samples) s = .next (s.withTx { s.tx with
        failures := s.tx.failures + 1
        state := .waiting
        live := some (refreshed s lf) })) ∧
    (s.mode = .halted → s.tx.state = .sending → wrongBit s.tx lf position samples →
      exec (.bitError position samples) s = .next (s.withTx { s.tx with state := .quiet, live := none })) ∧
    (¬ wrongBit s.tx lf position samples → exec (.bitError position samples) s = .next s)

/-- R77, R182: the sixteenth failure mutes the transmitter and halts the part with cause MUTE, whether it is named as
MUTE or as BIT_ERROR (log 5), and no answer stays in a layer, for both are empty before the entry (R136). -/
def Obligations.MuteCompletes : Prop :=
  ∀ (s : State) (lf : LayerFrame) (position : Nat) (samples : BitSamples), s.mode = .running → s.tx.live = some lf →
    s.tx.failures = 15 → wrongBit s.tx lf position samples →
    ∃ t, exec (.mute position samples) s = .next t ∧ exec (.bitError position samples) s = .next t ∧
      haltedFrom s t ∧ t.cause = some .mute ∧ t.tx.state = .mute ∧ t.tx.failures = 16 ∧ t.tx.live = none

/-- R75, R49, R58, R79: FRAME_COMPLETION at a last stop bit that reads 1; one that reads 0 completes nothing. The START
counter of the point goes down where the frame carried START, and on reaching 0 an unstarted frame of the point is built
anew in the next layer, with START clear; the layer keeps its entry, and any other frame is as it was. -/
def Obligations.FrameCompletionCompletes : Prop :=
  ∀ (s : State) (lf : LayerFrame) (samples : BitSamples), s.tx.state = .sending → s.tx.live = some lf →
    s.mode = .running ∨ s.mode = .halted →
    (bitValue samples = false → exec (.frameCompletion samples) s = .next s) ∧
    (bitValue samples = true → ∃ t, exec (.frameCompletion samples) s = .next t ∧ t = { s with tx := t.tx, rx := t.rx } ∧
      t.rx = { s.rx with sent := t.rx.sent } ∧
      t.tx = { s.tx with
        state := .quiet, failures := 0, live := none, next := t.tx.next, startCounters := t.tx.startCounters } ∧
      (∀ p, t.tx.startCounters.get p =
        if lf.frame.startPoint = some p then s.tx.startCounters.get p - 1 else s.tx.startCounters.get p) ∧
      (∀ p, lf.frame.startPoint = some p → s.tx.startCounters.get p = 1 →
        (∀ g ∈ t.tx.next, g.entry.kind.carriesPoint p = true → g.frame.startPoint = none) ∧
        (s.tx.next = none → t.tx.next = none) ∧
        ∀ g, s.tx.next = some g → ∃ f, t.tx.next = some { g with frame := f } ∧
          (g.entry.kind.carriesPoint p = true → t.buildFrame g.entry = some f) ∧
          (g.entry.kind.carriesPoint p = false → f = g.frame)) ∧
      ((∀ p, lf.frame.startPoint = some p → s.tx.startCounters.get p ≠ 1) → t.tx.next = s.tx.next))

/-- R56, R59, R72, R78: what FL_TX carries. Not ARBITRATING and not SENDING it is recessive; in ARBITRATING it is dominant
for the 0 bits of the start bit and the arbitration byte alone; in SENDING every later character has its start bit
dominant, its data bits dominant where they are 0, the most significant first, and its stop bit recessive, and nothing
follows the last stop bit. In a part with a sound transmitter it is dominant in RUNNING, or in HALTED for a frame being
finished, and never else. That the pin is no field of the state but a function of it is the model's (log 17). -/
def Obligations.FieldLineIsDriven : Prop :=
  (∀ (s : State) (position : Nat), s.tx.state ≠ .arbitrating → s.tx.state ≠ .sending →
    s.tx.drives position = .recessive) ∧
  (∀ (s : State) (lf : LayerFrame) (position : Nat), s.tx.state = .arbitrating → s.tx.live = some lf →
    (s.tx.drives position = .dominant ↔ position < 9 ∧ arbitrationBit lf.frame position = false)) ∧
  (∀ (s : State) (lf : LayerFrame) (k : Nat) (b : Byte), s.tx.state = .sending → s.tx.live = some lf →
    lf.frame.encode[k]? = some b →
    (1 ≤ k → s.tx.drives (10 * k) = .dominant) ∧
    (1 ≤ k → ∀ j : Fin 8, s.tx.drives (10 * k + 1 + j.val) = .dominant ↔ b.getLsbD (7 - j.val) = false) ∧
    s.tx.drives (10 * k + 9) = .recessive) ∧
  (∀ (s : State) (lf : LayerFrame) (position : Nat), s.tx.state = .sending → s.tx.live = some lf →
    position < 9 ∨ 10 * lf.frame.encode.length ≤ position → s.tx.drives position = .recessive) ∧
  ∀ (s : State) (position : Nat), TxSound s → s.tx.drives position = .dominant →
    s.mode = .running ∨ s.mode = .halted ∧ s.tx.state = .sending

/-! ## Frames and the check -/

/-- R62: the check, byte by byte; its test value; where it stands in a frame; and the test that a receiver and the
configuration check apply. -/
def Obligations.CheckDetectsItsWord : Prop :=
  crc [] = 0xFFFF#16 ∧
  (∀ (bytes : List Byte) (b : Byte), crc (bytes ++ [b]) = (bitsOf b).foldl
    (fun (register : BitVec 16) bit => if (register.getLsbD 15 ^^ bit) then (register <<< 1) ^^^ 0x1021#16 else register <<< 1)
    (crc bytes)) ∧
  crc [0x31, 0x32, 0x33, 0x34, 0x35, 0x36, 0x37, 0x38, 0x39] = 0x29B1#16 ∧
  (∀ (bytes : List Byte) (high low : Byte),
    crc (bytes ++ [high, low]) = 0#16 ↔ word high low = (crc bytes).toNat) ∧
  (∀ f : Frame, ∃ high low, f.encode = f.head ++ [high, low] ∧ word high low = (crc f.head).toNat) ∧
  ∀ (station : Station) (image : List Byte), imageGood station image = true → crc image = 0#16

/-- R61 and the frame tables: every byte of every frame, as numbers. -/
def Obligations.FrameLayouts : Prop :=
  (∀ source change c speed, buildable (.countReport source change c speed) →
    ∃ a l b0 b1 b2 b3 b4 b5 b6 b7 : Byte,
      (Frame.countReport source change c speed).head = [a, l, b0, b1, b2, b3, b4, b5, b6, b7] ∧
      a.toNat = 32 * (if change then 3 else 5) + source.toNat ∧ l.toNat = 8 ∧ b0.toNat = pointByteNumber c ∧
      b1 = c.serial ∧ word b2 b3 = c.nAB.toNat ∧ word b4 b5 = c.nBA.toNat ∧
      word b6 b7 = match speed with
        | none => 65535
        | some v => v) ∧
  (∀ source requester slot tag c, buildable (.settleAnswer source requester slot tag c) →
    ∃ a l b0 b1 b3 b5 b6 b7 b8 : Byte,
      (Frame.settleAnswer source requester slot tag c).head = [a, l, b0, b1, tag, b3, c.serial, b5, b6, b7, b8] ∧
      a.toNat = 32 * 1 + source.toNat ∧ l.toNat = 9 ∧ b0.toNat = requester.toNat ∧ b1.toNat = slot.val ∧
      b3.toNat = pointByteNumber c ∧ word b5 b6 = c.nAB.toNat ∧ word b7 b8 = c.nBA.toNat) ∧
  (∀ source slot tag points, buildable (.settleRequest source slot tag points) →
    ∃ (a l b0 : Byte) (names : List Byte),
      (Frame.settleRequest source slot tag points).head = a :: l :: b0 :: tag :: names ∧
      a.toNat = 32 * 2 + source.toNat ∧ l.toNat = 2 + points.length ∧ b0.toNat = 32 * slot.val + points.length ∧
      names.map BitVec.toNat = points.map fun p => 4 * p.1.toNat + p.2.val) ∧
  (∀ source change c, buildable (.sectionStatus source change c) →
    ∃ a l b0 b1 b2 b3 b4 b5 b6 b7 : Byte,
      (Frame.sectionStatus source change c).head = [a, l, b0, b1, b2, b3, b4, b5, b6, b7] ∧
      a.toNat = 32 * (if change then 4 else 6) + source.toNat ∧ l.toNat = 8 ∧
      b0.toNat = 32 * c.slot.val + stateNumber c.state ∧ word b1 b2 = c.number ∧
      (word b3 b4 = match c.balance with
        | none => 65535
        | some b => b) ∧
      b5.toNat = causeNumber c.cause ∧
      (b6.toNat = match c.restoreSerial with
        | none => 0
        | some k => k.toNat) ∧
      b7.toNat = 128 * bitOf c.restoreSerial.isSome + outcomeNumber c.restoreOutcome) ∧
  ∀ source target slot direct serial, buildable (.restoreCommand source target slot direct serial) →
    ∃ a l b0 b1 : Byte,
      (Frame.restoreCommand source target slot direct serial).head = [a, l, b0, b1, serial] ∧
      a.toNat = source.toNat ∧ l.toNat = 3 ∧ b0.toNat = target.toNat ∧ b1.toNat = 32 * slot.val + bitOf direct

/-- Building and reading agree: a receiver reads every frame that can be built as what it was built from, its length byte
and its CRC good (R61 to R64). -/
def Obligations.ReadingUndoesBuilding : Prop :=
  ∀ f : Frame, buildable f →
    parseFrame f.encode = some f.received ∧ classOf f.encode = f.cls ∧ sourceOf f.encode = f.source ∧
      crc f.encode = 0#16 ∧ frameLength f.encode = some f.encode.length ∧ 7 ≤ f.encode.length ∧
      f.encode.length ≤ 13

/-- A whole frame of another station, character by character from an idle line, reaches the handler as it was built
(R58, R59, R81 to R84, R87). The cleared `sent` is the model's (log 11). -/
def Obligations.WholeFrameIsReceived : Prop :=
  ∀ (s : State) (f : Frame), buildable f → s.mode.listens = true → s.station ≠ some f.source →
    s.rx.assembling = false → s.rx.inCharacter = false → s.rx.idleCount = 12 → s.rx.handling = none →
    s.rx.fifo = [] →
    runAll (f.encode.flatMap characterCommands) s =
      .next { s with rx := { s.rx with
        assembling := false, buffer := [], inCharacter := false, idleCount := 0, sent := none
        handling := some f.encode } }

/-! ## Receiver -/

/-- R57, R58, R60, R81, R82: START_BIT. A level of fewer than two samples is nothing; a start bit read as 1 is a framing
error while ASSEMBLING; one read as 0 begins a frame on an idle line, goes on with one while ASSEMBLING, and is passed
over otherwise. The value of the bit is the majority of samples 7, 8 and 9 as validated. The cleared `sent` is the model's
(log 11). -/
def Obligations.StartBitCompletes : Prop :=
  ∀ (s : State) (k : Nat) (b : BitSamples), s.mode.listens = true → s.rx.inCharacter = false →
    (k < 2 → exec (.startBit k b) s = .next s) ∧
    (2 ≤ k →
      (((b.s7 = .dominant ∧ b.s8 = .dominant) ∨ (b.s8 = .dominant ∧ b.s9 = .dominant) ∨
          (b.s6 = .dominant ∧ b.s7 = .dominant ∧ b.s9 = .dominant ∧ b.s10 = .dominant)) →
        exec (.startBit k b) s = .next (s.withRx { s.rx with
          inCharacter := true
          idleCount := 0
          sent := none
          assembling := s.rx.assembling || s.rx.idleCount = 12
          buffer := if s.rx.assembling = false ∧ s.rx.idleCount = 12 then [] else s.rx.buffer })) ∧
      (¬ ((b.s7 = .dominant ∧ b.s8 = .dominant) ∨ (b.s8 = .dominant ∧ b.s9 = .dominant) ∨
          (b.s6 = .dominant ∧ b.s7 = .dominant ∧ b.s9 = .dominant ∧ b.s10 = .dominant)) →
        exec (.startBit k b) s = .next (s.withRx { s.rx with
          idleCount := 0
          sent := none
          assembling := false
          buffer := if s.rx.assembling then [] else s.rx.buffer })))

/-- R82, R83: CHARACTER_COMPLETE while HUNTING, at the arbitration byte, at a good and at a bad length byte (BAD_LENGTH is
the same event, log 5), and within the body; and FRAMING_ERROR. The cleared `sent` is the model's (log 11); that while
HUNTING a character ends so whatever its stop bit is its choice (log 31). -/
def Obligations.CharactersComplete : Prop :=
  ∀ (s : State) (data : List BitSamples) (b : Byte), s.mode.listens = true → s.rx.inCharacter = true →
    reads data b →
    (s.rx.assembling = false →
      exec (.characterComplete data) s = .next (s.withRx { s.rx with inCharacter := false, idleCount := 0 })) ∧
    (s.rx.assembling = true → s.rx.buffer = [] →
      exec (.characterComplete data) s =
        .next (s.withRx { s.rx with inCharacter := false, idleCount := 0, buffer := [b] })) ∧
    (∀ a, s.rx.assembling = true → s.rx.buffer = [a] → 3 ≤ b.toNat → b.toNat ≤ 9 →
      exec (.characterComplete data) s =
        .next (s.withRx { s.rx with inCharacter := false, idleCount := 0, buffer := [a, b] })) ∧
    (∀ a, s.rx.assembling = true → s.rx.buffer = [a] → b.toNat < 3 ∨ 9 < b.toNat →
      exec (.characterComplete data) s = .next (s.withRx { s.rx with
        inCharacter := false, idleCount := 0, buffer := [], assembling := false }) ∧
      exec (.badLength data) s = exec (.characterComplete data) s) ∧
    (∀ a l rest, s.rx.assembling = true → s.rx.buffer = a :: l :: rest → rest.length + 3 ≠ l.toNat + 4 →
      exec (.characterComplete data) s =
        .next (s.withRx { s.rx with inCharacter := false, idleCount := 0, buffer := s.rx.buffer ++ [b] })) ∧
    (s.rx.assembling = true → ∀ stop : BitSamples, bitValue stop = false →
      exec (.framingError .stop stop) s = .next (s.withRx { s.rx with
        inCharacter := false, idleCount := 0, buffer := [], assembling := false, sent := none })) ∧
    (s.rx.assembling = true → ∀ start : BitSamples, bitValue start = true →
      exec (.framingError .start start) (s.withRx { s.rx with inCharacter := false }) =
        .next (s.withRx { s.rx with
          inCharacter := false, idleCount := 0, buffer := [], assembling := false, sent := none }))

/-- R84 to R87: RECEIVER_FRAME_COMPLETE by CRC failure, own frame, clash, admission to the handler or the FIFO, and
overrun. That a frame completed by the transmitter just before counts as SENDING at the stop bit is log 11.
What an entry to HALTED leaves unsent in the layers is log 32. -/
def Obligations.FrameCompleteOutcomes : Prop :=
  ∀ (s : State) (data : List BitSamples) (a l b : Byte) (rest : List Byte),
    s.mode.listens = true → s.rx.inCharacter = true → s.rx.assembling = true → reads data b →
    s.rx.buffer = a :: l :: rest → 3 ≤ l.toNat → l.toNat ≤ 9 → rest.length + 3 = l.toNat + 4 →
    exec (.characterComplete data) s = exec (.receiverFrameComplete data) s ∧
    (crc (s.rx.buffer ++ [b]) ≠ 0#16 →
      exec (.receiverFrameComplete data) s = .next (s.withRx { s.rx with
        assembling := false, buffer := [], inCharacter := false, idleCount := 0, sent := none })) ∧
    (crc (s.rx.buffer ++ [b]) = 0#16 → s.station = some (a.extractLsb' 0 5) →
      ((s.tx.state = .sending ∧ ∃ lf, s.tx.live = some lf ∧ lf.frame.encode = s.rx.buffer ++ [b]) ∨
        s.rx.sent = some (s.rx.buffer ++ [b]) →
        exec (.receiverFrameComplete data) s = .next (s.withRx { s.rx with
          assembling := false, buffer := [], inCharacter := false, idleCount := 0, sent := none })) ∧
      (¬ ((s.tx.state = .sending ∧ ∃ lf, s.tx.live = some lf ∧ lf.frame.encode = s.rx.buffer ++ [b]) ∨
        s.rx.sent = some (s.rx.buffer ++ [b])) →
        ∃ t, exec (.receiverFrameComplete data) s = .next t ∧ haltedFrom s t ∧ t.cause = some .clash)) ∧
    (crc (s.rx.buffer ++ [b]) = 0#16 → s.station ≠ some (a.extractLsb' 0 5) →
      (s.rx.handling = none → s.rx.fifo = [] →
        exec (.receiverFrameComplete data) s = .next (s.withRx { s.rx with
          assembling := false, buffer := [], inCharacter := false, idleCount := 0, sent := none
          handling := some (s.rx.buffer ++ [b]) })) ∧
      (s.rx.handling.isSome = true → s.rx.fifo.length < 2 →
        exec (.receiverFrameComplete data) s = .next (s.withRx { s.rx with
          assembling := false, buffer := [], inCharacter := false, idleCount := 0, sent := none
          fifo := s.rx.fifo ++ [s.rx.buffer ++ [b]] })) ∧
      (s.rx.handling.isSome = true → s.rx.fifo.length = 2 →
        exec (.receiverFrameComplete data) s = .next (s.withRx { s.rx with
          assembling := false, buffer := [], inCharacter := false, idleCount := 0, sent := none })))

/-! ## Frame handler -/

/-- R64 and R89: what makes a frame invalid, from its arbitration byte, its body and any CRC. Every other frame is read,
field by field of the frame tables (04, section 4.3), and the bits marked 0 play no part: whatever they hold, the frame is
read by the other bits alone. -/
def Obligations.InvalidFramesAreRefused : Prop :=
  ∀ (a l h k : Byte) (body : List Byte),
    (a.toNat / 32 = 7 → parseFrame (a :: l :: (body ++ [h, k])) = none) ∧
    (a.toNat % 32 = 0 → parseFrame (a :: l :: (body ++ [h, k])) = none) ∧
    (a.toNat / 32 = 0 → (body.length ≠ 3 ∨ ∃ b0 rest, body = b0 :: rest ∧ b0.toNat % 32 = 0) →
      parseFrame (a :: l :: (body ++ [h, k])) = none) ∧
    (a.toNat / 32 = 1 →
      (body.length ≠ 9 ∨ (∃ b0 rest, body = b0 :: rest ∧ b0.toNat % 32 = 0) ∨
        ∃ b3, body[3]? = some b3 ∧ (b3.toNat / 4 % 4 = 3 ∨ b3.toNat % 4 = 3)) →
      parseFrame (a :: l :: (body ++ [h, k])) = none) ∧
    (a.toNat / 32 = 2 →
      (body.length < 2 ∨ ∃ b0 rest, body = b0 :: rest ∧
        (b0.toNat % 8 = 0 ∨ 4 < b0.toNat % 8 ∨ body.length ≠ 2 + b0.toNat % 8 ∨
          ∃ name ∈ rest.drop 1, name.toNat / 4 % 32 = 0)) →
      parseFrame (a :: l :: (body ++ [h, k])) = none) ∧
    ((a.toNat / 32 = 3 ∨ a.toNat / 32 = 5) →
      (body.length ≠ 8 ∨
        (∃ b0 rest, body = b0 :: rest ∧ (b0.toNat / 4 % 4 = 3 ∨ b0.toNat % 4 = 3)) ∨
        ∃ b6 b7, body[6]? = some b6 ∧ body[7]? = some b7 ∧ 999 < word b6 b7 ∧ word b6 b7 ≠ 65535) →
      parseFrame (a :: l :: (body ++ [h, k])) = none) ∧
    ((a.toNat / 32 = 4 ∨ a.toNat / 32 = 6) → body.length ≠ 8 →
      parseFrame (a :: l :: (body ++ [h, k])) = none) ∧
    ∀ source : Station, a.toNat % 32 = source.toNat → source ≠ 0 →
      (∀ b0 b1 serial, ∀ target : Station, ∀ slot : Slot, a.toNat / 32 = 0 → body = [b0, b1, serial] →
        b0.toNat % 32 = target.toNat → target ≠ 0 → b1.toNat / 32 = slot.val →
        parseFrame (a :: l :: (body ++ [h, k])) =
          some (.restoreCommand source target slot (decide (b1.toNat % 2 = 1)) serial)) ∧
      (∀ b0 b1 tag point serial b5 b6 b7 b8, ∀ requester : Station, ∀ slot : Slot, ∀ c,
        a.toNat / 32 = 1 → body = [b0, b1, tag, point, serial, b5, b6, b7, b8] →
        b0.toNat % 32 = requester.toNat → requester ≠ 0 → b1.toNat % 8 = slot.val →
        pointRead point serial (word b5 b6) (word b7 b8) c →
        parseFrame (a :: l :: (body ++ [h, k])) = some (.settleAnswer source requester slot tag c)) ∧
      (∀ b0 tag asked, ∀ slot : Slot, ∀ points : List (Station × PointIndex),
        a.toNat / 32 = 2 → body = b0 :: tag :: asked → b0.toNat / 32 = slot.val → b0.toNat % 8 = points.length →
        1 ≤ points.length → points.length ≤ 4 → (∀ p ∈ points, p.1 ≠ 0) →
        asked.map (fun b => (b.toNat / 4 % 32, b.toNat % 4)) = points.map (fun p => (p.1.toNat, p.2.val)) →
        parseFrame (a :: l :: (body ++ [h, k])) = some (.settleRequest source slot tag points)) ∧
      (∀ point serial b2 b3 b4 b5 b6 b7, ∀ c, a.toNat / 32 = 3 ∨ a.toNat / 32 = 5 →
        body = [point, serial, b2, b3, b4, b5, b6, b7] → word b6 b7 ≤ 999 ∨ word b6 b7 = 65535 →
        pointRead point serial (word b2 b3) (word b4 b5) c →
        parseFrame (a :: l :: (body ++ [h, k])) = some (.countReport source c)) ∧
      (a.toNat / 32 = 4 ∨ a.toNat / 32 = 6 → body.length = 8 →
        parseFrame (a :: l :: (body ++ [h, k])) = some (.sectionStatus source))

/-- R89, R90, R93: the handlings that have no effect but to free the handler: an invalid frame, a frame of class 7, a
SECTION STATUS, a SETTLE REQUEST or RESTORE COMMAND in LISTENING, a RESTORE COMMAND for another station. -/
def Obligations.FramesWithoutEffect : Prop :=
  ∀ (s : State) (bytes : List Byte), s.mode.listens = true → s.rx.handling = some bytes →
    (parseFrame bytes = none →
      exec (handlerCommand (classOf bytes)) s = .next { s with rx := handlerFreed s.rx }) ∧
    (classOf bytes = 7 → exec .class7FrameHandled s = .next { s with rx := handlerFreed s.rx }) ∧
    (PendingSound s → AttnSound s → ∀ f, parseFrame bytes = some f →
      ((∃ source, f = .sectionStatus source) → exec .sectionStatus s = .next { s with rx := handlerFreed s.rx }) ∧
      ((∃ source n tag points, f = .settleRequest source n tag points) → s.mode = .listening →
        exec .settleRequest s = .next { s with rx := handlerFreed s.rx }) ∧
      ((∃ source target n direct serial, f = .restoreCommand source target n direct serial ∧
          (s.mode = .listening ∨ s.station ≠ some target)) →
        exec .restoreCommand s = .next { s with rx := handlerFreed s.rx }))

/-- R90, R94 to R98, R100, R117, R169: COUNT_REPORT, for a point that no entry names, and for the entry of its point in each
of its states: rebase, restart, jump, ordinary update; and the class-4 status of every section it changes in RUNNING.
That the entry notes an age expiry overtaken at that instant is the model's (log 34). -/
def Obligations.CountReportCompletes : Prop :=
  ∀ (s : State) (bytes : List Byte) (source : Station) (c : PointContent),
    s.mode.listens = true → s.rx.handling = some bytes → parseFrame bytes = some (.countReport source c) →
    PendingSound s → AttnSound s →
    ((∀ m e, s.mirror.get m = some e → ¬ (e.station = source ∧ e.point = c.point)) →
      exec .countReport s = .next { s with rx := handlerFreed s.rx }) ∧
    ∀ m e, names s m e source c.point →
      ∃ t, exec .countReport s = .next t ∧
        t = { s with
              rx := handlerFreed s.rx, mirror := s.mirror.set m (some (accepted e c)), sections := t.sections,
              tx := t.tx, lines := t.lines, attn0 := t.attn0, attn1 := t.attn1 } ∧
        ((∀ v, e.hold ≠ .fresh v) → t.sections = s.sections ∧ t.lines = s.lines ∧ t.tx = s.tx) ∧
        (s.mode = .running → ∀ n, sectionMoved (s.sections.get n) (t.sections.get n) → statusTaken t n) ∧
        ∀ v, e.hold = .fresh v →
          (c.start = true → v.start = false → ∀ n, t.sections.get n = (s.sections.get n).map fun sec =>
            if sec.uses (.mirror m) then disturbedBy .restart (.mirror m) (shown c) sec else sec) ∧
          (¬ (c.start = true ∧ v.start = false) → 64 < deltaOf c.nAB v.nAB ∨ 64 < deltaOf c.nBA v.nBA →
            ∀ n, t.sections.get n = (s.sections.get n).map fun sec =>
              if sec.uses (.mirror m) then disturbedBy .jump (.mirror m) (shown c) sec else sec) ∧
          (¬ (c.start = true ∧ v.start = false) → deltaOf c.nAB v.nAB ≤ 64 → deltaOf c.nBA v.nBA ≤ 64 →
            ∀ n, t.sections.get n = (s.sections.get n).map fun sec =>
              if sec.uses (.mirror m) then
                (s.setMirror m (accepted e c)).evaluateSection none (.mirror m) sec
              else sec)

/-- R90, R92, R137 to R139: SETTLE_ANSWER is a COUNT REPORT of the same content first, with every evaluation that brings
about. It is nothing more in LISTENING, for another requester, with counts that are no ordinary update of a FRESH entry, and
where that first stage leaves the slot without an open round of the answer's tag that still awaits its point: every case of
R138. Else it counts: it takes the point's terms out of the unanswered set and, with the last of them, completes the round.
The third clause says the same of an answer that shows no change, from the state before it. In RUNNING every section it
changes has its class-4 status (R169). That the entry notes an overtaken age expiry is the model's (log 34). -/
def Obligations.SettleAnswerCompletes : Prop :=
  (∀ (s : State) (bytes report : List Byte) (source requester : Station) (n : Slot) (tag : Serial) (c : PointContent),
    s.mode.listens = true → s.rx.handling = some bytes →
    parseFrame bytes = some (.settleAnswer source requester n tag c) →
    parseFrame report = some (.countReport source c) →
    ∃ u, exec .countReport (s.withRx { s.rx with handling := some report }) = .next u ∧
      ((s.mode = .listening ∨ s.station ≠ some requester ∨
          (∀ m e v, s.mirror.get m = some e → e.station = source → e.point = c.point → e.hold = .fresh v →
            (c.start = true ∧ v.start = false) ∨ 64 < deltaOf c.nAB v.nAB ∨ 64 < deltaOf c.nBA v.nBA) ∨
          ∀ sec r, u.sections.get n = some sec → sec.round = some r →
            r.tag ≠ tag ∨ ∀ i ∈ r.unanswered, ¬ asksFor u sec source c.point i) →
        exec .settleAnswer s = .next u) ∧
      ∀ m e v sec r, s.mode = .running → s.station = some requester → names s m e source c.point →
        e.hold = .fresh v → ¬ (c.start = true ∧ v.start = false) → deltaOf c.nAB v.nAB ≤ 64 →
        deltaOf c.nBA v.nBA ≤ 64 → u.sections.get n = some sec → sec.round = some r → r.tag = tag →
        (∃ i ∈ r.unanswered, asksFor u sec source c.point i) →
        ∃ t left, exec .settleAnswer s = .next t ∧
          (∀ i, i ∈ left ↔ i ∈ r.unanswered ∧ ¬ asksFor u sec source c.point i) ∧
          t = { u with
                sections := u.sections.set n (some
                  (if left = [] then { sec with state := .clear, round := none }
                  else { sec with round := some { r with unanswered := left } }))
                tx := t.tx, lines := u.lines.set n (t.lines.get n), attn0 := t.attn0, attn1 := t.attn1 }) ∧
  (∀ (s : State) (bytes : List Byte) (source requester : Station) (n : Slot) (tag : Serial) (c : PointContent),
    s.mode = .running → s.rx.handling = some bytes →
    parseFrame bytes = some (.settleAnswer source requester n tag c) → PendingSound s →
    ∃ t, exec .settleAnswer s = .next t ∧
      ∀ k, sectionMoved (s.sections.get k) (t.sections.get k) → statusTaken t k) ∧
  ∀ (s : State) (bytes : List Byte) (source own : Station) (n : Slot) (tag : Serial) (c : PointContent)
    (m : EntryIndex) (e : MirrorEntry) (v : MirrorView) (sec : Section) (r : Round),
    s.mode = .running → s.station = some own → s.rx.handling = some bytes →
    parseFrame bytes = some (.settleAnswer source own n tag c) → names s m e source c.point → e.hold = .fresh v →
    v.nAB = c.nAB → v.nBA = c.nBA → v.serial = c.serial → c.condition = .normal → c.head = .free →
    ¬ (c.start = true ∧ v.start = false) →
    s.sections.get n = some sec → sec.state = .settling → sec.balance = some 0 → sec.round = some r →
    (∀ t ∈ sec.terms, t.source = .mirror m → t.aAB = c.nAB ∧ t.aBA = c.nBA ∧ t.aSerial = c.serial) →
    let waiting := r.unanswered.filter fun i => sec.terms[i]?.map Term.source ≠ some (.mirror m)
    ∃ t, exec .settleAnswer s = .next t ∧ t.rx = handlerFreed s.rx ∧ t.mirror.get m = some (accepted e c) ∧
      (tag ≠ r.tag → t.sections.get n = some sec) ∧
      (tag = r.tag → waiting ≠ [] →
        t.sections.get n = some { sec with round := some { r with unanswered := waiting } } ∧
        t.lines.get n = s.lines.get n) ∧
      (tag = r.tag → r.unanswered ≠ [] → waiting = [] →
        t.sections.get n = some { sec with state := .clear, round := none } ∧
        ((s.lines.get n).toggling = false →
          t.lines.get n = { toggling := true, high := true, phase := 0 }) ∧
        ∀ g ∈ t.tx.entries, g.kind.isRequest n = false)

/-- R91, R135: SETTLE_REQUEST makes an answer due for each named in-use point of this station: held with the request's tag,
or dropped because 8 answers are held; for one named point, by each row of R135. The new answer takes the place of a frame
of another class in the next layer (R71), and that frame's entry returns to the list by R67, but for a request whose round
has closed. -/
def Obligations.SettleRequestCompletes : Prop :=
  ∀ (s : State) (bytes : List Byte) (source own : Station) (n : Slot) (tag : Serial)
    (points : List (Station × PointIndex)),
    s.mode = .running → s.station = some own → s.rx.handling = some bytes →
    parseFrame bytes = some (.settleRequest source n tag points) → PendingSound s → AttnSound s →
    ∃ t, exec .settleRequest s = .next t ∧ t = { s with rx := handlerFreed s.rx, tx := t.tx } ∧
      t.tx.live = s.tx.live ∧
      (∀ p, (own, p) ∈ points → s.pointInUse p = true →
        (∃ e ∈ t.tx.entries, e.kind = .answer source n p tag) ∨
        (∃ lf ∈ t.tx.next, lf.entry.kind = .answer source n p tag) ∨ t.tx.answersHeld = 8) ∧
      ((∀ p, (own, p) ∈ points → s.pointInUse p = false) → t.tx = s.tx) ∧
      (∀ p, points = [(own, p)] → s.pointInUse p = true → ∀ lf, s.tx.next = some lf → 1 < lf.entry.cls →
        ∃ f, t.tx.next = some ⟨⟨.answer source n p tag, 1, s.tx.nextPlace⟩, f⟩ ∧
          s.buildFrame ⟨.answer source n p tag, 1, s.tx.nextPlace⟩ = some f ∧ returnedTo s lf t.tx.entries) ∧
      ∀ p, points = [(own, p)] → s.pointInUse p = true → notPreempted s.tx 1 →
        (∀ e ∈ s.tx.entries, ∀ old, e.kind = .answer source n p old → t.tx = { s.tx with
          entries := s.tx.entries.map fun g =>
            if g = e then { g with kind := .answer source n p tag } else g }) ∧
        ((∀ e ∈ s.tx.entries, ∀ old, e.kind ≠ .answer source n p old) →
          (s.tx.answersHeld < 8 → t.tx = { s.tx with
            entries := s.tx.entries ++ [⟨.answer source n p tag, 1, s.tx.nextPlace⟩]
            nextPlace := s.tx.nextPlace + 1 }) ∧
          (s.tx.answersHeld = 8 → t.tx = s.tx))

/-- R152 to R159: a RESTORE_COMMAND for this station in RUNNING that is ignored (slot not in use, source not authorized,
duplicate), and one that is refused, with the first reason of R152 and its serial recorded. That a wheel in passage refuses
it, also just before the completion that counts the passage, is the model's reading of R159 against row 2 of R163
(log 33). -/
def Obligations.RestoreIgnoredOrRefused : Prop :=
  ∀ (s : State) (bytes : List Byte) (source own : Station) (n : Slot) (direct : Bool) (serial : Serial)
    (cfg : LoadedConfig),
    s.mode = .running → s.station = some own → s.config = some cfg → s.rx.handling = some bytes →
    parseFrame bytes = some (.restoreCommand source own n direct serial) → PendingSound s → AttnSound s →
    (s.sections.get n = none → exec .restoreCommand s = .next { s with rx := handlerFreed s.rx }) ∧
    (cfg.restore1 ≠ source → cfg.restore2 ≠ source →
      exec .restoreCommand s = .next { s with rx := handlerFreed s.rx }) ∧
    ∀ sec, s.sections.get n = some sec →
      (sec.restoreSerial = some serial → exec .restoreCommand s = .next { s with rx := handlerFreed s.rx }) ∧
      (cfg.restore1 = source ∨ cfg.restore2 = source → sec.restoreSerial ≠ some serial →
        ∀ outcome,
          (sec.state ≠ .disturbed ∧ outcome = .refusedState ∨
            sec.state = .disturbed ∧ direct = true ∧ sec.direct = false ∧ outcome = .refusedMode ∨
            sec.state = .disturbed ∧ (direct = true → sec.direct = true) ∧ (∃ t ∈ sec.terms, ¬ quiet s t) ∧
              outcome = .refusedTerms) →
          ∃ t, exec .restoreCommand s = .next t ∧ t.rx = handlerFreed s.rx ∧
            t.sections = s.sections.set n
              (some { sec with restoreSerial := some serial, restoreOutcome := outcome }) ∧
            ((sec.state = .clear ↔ (s.lines.get n).toggling = true) → (sec.state ≠ .clear → s.lines.get n = .low) →
              t.lines = s.lines) ∧
            t.records = s.records ∧ t.mirror = s.mirror ∧ statusTaken t n)

/-- R106, R159, R160, R161, R162, R131 to R133: an ACCEPTED RESTORE_COMMAND, PROVE and DIRECT. That quietness by condition,
head and freshness is enough for it, also right after an overspeed passage that moved a serial, is the model's reading of
R106 and R159 against row 1 of R163 (log 33). -/
def Obligations.RestoreAccepted : Prop :=
  ∀ (s : State) (bytes : List Byte) (source own : Station) (n : Slot) (direct : Bool) (serial : Serial)
    (cfg : LoadedConfig) (sec : Section),
    s.mode = .running → s.station = some own → s.config = some cfg → s.rx.handling = some bytes →
    parseFrame bytes = some (.restoreCommand source own n direct serial) → PendingSound s →
    cfg.restore1 = source ∨ cfg.restore2 = source → s.sections.get n = some sec → SectionShape sec →
    sec.restoreSerial ≠ some serial → sec.state = .disturbed → (direct = true → sec.direct = true) →
    (∀ t ∈ sec.terms, quiet s t) →
    let base : Section :=
      { sec with
        state := .proving, balance := some 0, cause := none, swept := false, terms := sec.terms.map (rebased s)
        restoreSerial := some serial, restoreOutcome := .accepted }
    ∃ t, exec .restoreCommand s = .next t ∧ t.rx = handlerFreed s.rx ∧
      t.sections = s.sections.set n (some (if direct then settled base else base)) ∧
      t.records = s.records ∧ t.mirror = s.mirror ∧ statusTaken t n ∧
      (direct = true → (∃ u ∈ sec.terms, u.isRemote = true) → requestHeld t n sec.nextTag) ∧
      (direct = true → (∀ u ∈ sec.terms, u.isRemote = false) → (s.lines.get n).toggling = false →
        t.lines.get n = { toggling := true, high := true, phase := 0 })

/-! ## Sections -/

/-- R109, R111, R112, R115, R116, R120, R121, R123, R125 to R127, R141: a point change or UPDATE at a section with a term on
its source, by the first row that applies in its state. -/
def Obligations.TermEventOutcomes : Prop :=
  ∀ (s : State) (src : TermSource) (v : SourceView) (sec : Section) (b : Nat),
    s.source src = some v → SectionShape sec → sec.uses src = true →
    (sec.state = .disturbed → s.evaluateSection none src sec = followed src v sec) ∧
    (sec.state ≠ .disturbed → moved src v sec →
      s.evaluateSection none src sec = disturbedBy .point src v sec) ∧
    (sec.balance = some b → ¬ moved src v sec →
      (b + netOf src v sec < 0 → s.evaluateSection none src sec = disturbedBy .underflow src v sec) ∧
      (1023 < b + netOf src v sec → s.evaluateSection none src sec = disturbedBy .overflow src v sec) ∧
      ∀ b' : Nat, b' = b + netOf src v sec → b' ≤ 1023 →
        (sec.state = .settling → (0 < netOf src v sec ∨ v.head = .wheelOn) →
          s.evaluateSection none src sec =
            { followed src v sec with
              state := .occupied, balance := some b', round := none, holdOff := { running := true, elapsed := 0 } }) ∧
        (sec.state = .settling → netOf src v sec = 0 → v.head = .free →
          s.evaluateSection none src sec = followed src v sec) ∧
        (sec.state = .clear → (0 < netOf src v sec ∨ v.head = .wheelOn) →
          s.evaluateSection none src sec =
            { followed src v sec with state := .occupied, balance := some b' }) ∧
        (sec.state = .clear → netOf src v sec = 0 → v.head = .free →
          s.evaluateSection none src sec = followed src v sec) ∧
        (sec.state = .occupied →
          let after := { followed src v sec with balance := some b' }
          s.evaluateSection none src sec =
            if b' = 0 ∧ sec.holdOff.running = false ∧ s.allQuiet sec then settled after else after) ∧
        (sec.state = .proving →
          let after := { followed src v sec with balance := some b', swept := sec.swept || decide (1 ≤ b') }
          s.evaluateSection none src sec =
            if b' = 0 ∧ sec.swept = true ∧ s.allQuiet sec then settled after else after))

/-- R99, R100, R115, R117: AGE_TIMER_EXPIRY of a FRESH entry. Where a COUNT_REPORT for the entry is taken first at the
instant at which the timer has run its 800 ms, the expiry does not take place; how the model knows that expiry is its own
(log 34). -/
def Obligations.AgeTimerExpiryCompletes : Prop :=
  (∀ (s t : State) (m : EntryIndex) (e : MirrorEntry) (v : MirrorView) (bytes : List Byte) (source : Station)
      (c : PointContent),
    s.mode.listens = true → names s m e source c.point → e.hold = .fresh v → e.age.running = true →
    e.age.elapsed = 800000 → s.rx.handling = some bytes → parseFrame bytes = some (.countReport source c) →
    exec .countReport s = .next t →
    ∃ f, t.mirror.get m = some f ∧ f = { accepted e c with overtaken := true } ∧
      exec (.ageTimerExpiry m) t = .next { t with mirror := t.mirror.set m (some { f with overtaken := false }) }) ∧
  ∀ (s : State) (m : EntryIndex) (e : MirrorEntry) (v : MirrorView),
    s.mode.listens = true → s.mirror.get m = some e → e.hold = .fresh v → e.age.running = true →
    e.overtaken = false →
    ∃ t, exec (.ageTimerExpiry m) s = .next t ∧
      t = { s with
            mirror := s.mirror.set m (some { e with hold := .stale v, age := { running := false, elapsed := 0 } })
            sections := t.sections, tx := t.tx, lines := t.lines, attn0 := t.attn0, attn1 := t.attn1 } ∧
      (∀ n, t.sections.get n = (s.sections.get n).map fun sec =>
        if sec.uses (.mirror m) then disturbedBy .stale (.mirror m) (v.source false) sec else sec) ∧
      (∀ n sec, s.sections.get n = some sec → sec.uses (.mirror m) = true → sec.state ≠ .disturbed →
        t.lines.get n = .low ∧ (s.mode = .running → PendingSound s → statusTaken t n))

/-- R143, R140, R134, R124, R125, R132, R133, R144: DEADLINE_EXPIRY closes the round of its slot, and HOLD_OFF_EXPIRY
lets a section settle that is empty and quiet. -/
def Obligations.DeadlineAndHoldOffExpiry : Prop :=
  ∀ (s : State) (n : Slot) (sec : Section), s.mode = .running → s.sections.get n = some sec → SectionShape sec →
    PendingSound s →
    (sec.state = .settling →
      ∃ t, exec (.deadlineExpiry n) s = .next t ∧
        t.sections = s.sections.set n (some { sec with
          state := .occupied, round := none, holdOff := { running := true, elapsed := 0 } }) ∧
        (∀ e ∈ t.tx.entries, e.kind.isRequest n = false) ∧ t.lines = s.lines.set n .low ∧ statusTaken t n ∧
        t.tx.live.isSome = s.tx.live.isSome ∧ t.mirror = s.mirror ∧ t.records = s.records) ∧
    (sec.holdOff.running = true →
      ∃ t, exec (.holdOffExpiry n) s = .next t ∧
        t.sections = s.sections.set n (some
          (if sec.balance = some 0 ∧ s.allQuiet sec = true then
            settled { sec with holdOff := { running := false, elapsed := 0 } }
          else { sec with holdOff := { running := false, elapsed := 0 } })) ∧
        t.mirror = s.mirror ∧ t.records = s.records ∧
        (sec.balance = some 0 → s.allQuiet sec = true → statusTaken t n ∧
          (sec.hasRemote = true → requestHeld t n sec.nextTag) ∧
          (sec.hasRemote = false → (s.lines.get n).toggling = false →
            t.lines.get n = { toggling := true, high := true, phase := 0 })))

/-! ## Start-up, reset and the indications -/

/-- R183, R175, R176, R179, R174, with the values of R17, R39, R55, R80, R103, R107 and R166: RESET_ASSERTION and
RESET_RELEASE. That the queue and the count of free values are kept
over a reset is the model's choice (log 10, log 25). In the entry to HALTED an answer stays unsent in its layer (R136,
log 32), and reset leaves none. -/
def Obligations.ResetAndRelease : Prop :=
  (∀ (s : State) (k : Nat),
    (2 ≤ k → exec (.resetAssertion k) s = .next { State.reset with pending := s.pending, draws := s.draws }) ∧
    (k < 2 → exec (.resetAssertion k) s = .next s)) ∧
  (State.reset.station = none ∧ State.reset.config = none ∧ State.reset.cause = none ∧
    State.reset.loadingTimer.running = false ∧ State.reset.listeningTimer.running = false ∧
    State.reset.cfgSelectLow = false ∧ State.reset.cfgClock = 0 ∧
    (∀ p ch, State.reset.channel p ch =
      { sample := none, raw := .free, run := 0, filtered := .free, onset := 0, health := .ok, window := 0 }) ∧
    State.reset.reference = { sample := none, health := .ok, window := 0 } ∧
    (∀ p, State.reset.records.get p =
      { state := .idle, nAB := 0, nBA := 0, serial := 0, condition := .normal, head := .free, last := none
        lag := none, dwell := 0 }) ∧
    (∀ n, State.reset.lines.get n = .low) ∧ State.reset.attn0 = .active ∧
    State.reset.attn1 = .active ∧ (∀ m, State.reset.mirror.get m = none) ∧
    (∀ n, State.reset.sections.get n = none) ∧ State.reset.tx.entries = [] ∧ State.reset.tx.next = none ∧
    State.reset.tx.live = none ∧ State.reset.tx.keptLive = none ∧ State.reset.tx.keptNext = none ∧
    State.reset.tx.state = .quiet ∧ State.reset.tx.failures = 0 ∧
    (∀ p, State.reset.tx.startCounters.get p = 50) ∧ State.reset.rx.fifo = [] ∧
    State.reset.rx.handling = none ∧ State.reset.rx.assembling = false ∧ State.reset.rx.buffer = [] ∧
    State.reset.rx.idleCount = 0) ∧
  ∀ s : State, s.mode = .heldInReset →
    (∀ straps : Station, straps ≠ 0 → exec (.resetRelease straps) s = .next { s with
      mode := .loading, station := some straps, cfgSelectLow := true, cfgClock := 0
      loadingTimer := { running := true, elapsed := 0 }, attn0 := .active, attn1 := .active }) ∧
    ∃ t, exec (.resetRelease 0) s = .next t ∧ haltedFrom s t ∧ t.cause = some .config

/-- R176 to R178: CONFIGURATION_READ_COMPLETE, for the 2048 levels of 256 bytes, each most significant bit first. A good
image becomes the loaded configuration, with the entries and sections it hands on; any other halts the part with cause
CONFIG. Before that the data line carries the 16 bits of 03h and 00h and is then released. That the entries and sections
wait in the configuration, and stand in their tables from the end of LOADING, is the model's reading of R94, R105 and R107
beside R178 (log 29). No entry has an overtaken age expiry (log 34).
What an entry to HALTED leaves unsent in the layers is log 32. -/
def Obligations.ConfigurationReadCompletes : Prop :=
  (∀ s : State,
    (s.cfgSelectLow = true → s.cfgClock < 8 → s.cfgData = some ((0x03#8).getLsbD (7 - s.cfgClock))) ∧
    (s.cfgSelectLow = true → 8 ≤ s.cfgClock → s.cfgClock < 16 → s.cfgData = some false) ∧
    (s.cfgSelectLow = false ∨ 16 ≤ s.cfgClock → s.cfgData = none)) ∧
  ∀ (s : State) (station : Station) (image : List Byte),
    s.mode = .loading → s.cfgSelectLow = true → s.station = some station → image.length = 256 →
    (goodImage station image →
      ∃ t cfg, exec (.configurationReadComplete (image.flatMap bitsOf)) s = .next t ∧
        t = { s with
              cfgSelectLow := false, cfgClock := 0, config := some cfg, attn0 := .active, attn1 := .active } ∧
        cfg.deb = at1 image 4 ∧ cfg.dwellCode = at1 image 5 ∧ cfg.attnRouting.toNat = at1 image 6 ∧
        cfg.restore1.toNat = at1 image 7 ∧ cfg.restore2.toNat = at1 image 8 ∧
        (∀ p : PointIndex, cfg.points.get p = if at1 image (16 + 12 * p.val) = 1 then
            some
              { spacing := at1 image (17 + 12 * p.val), vmax := at2 image (18 + 12 * p.val)
                tdA := at2 image (20 + 12 * p.val), trA := at2 image (22 + 12 * p.val)
                tdB := at2 image (24 + 12 * p.val), trB := at2 image (26 + 12 * p.val) }
          else none) ∧
        (∀ m : EntryIndex, (at1 image (64 + 2 * m.val) = 0 → cfg.mirror.get m = none) ∧
          (at1 image (64 + 2 * m.val) ≠ 0 → ∃ e, cfg.mirror.get m = some e ∧
            e.station.toNat = at1 image (64 + 2 * m.val) ∧ e.point.val = at1 image (65 + 2 * m.val) ∧
            e.hold = .unheard ∧ e.age = { running := false, elapsed := 0 } ∧ e.overtaken = false)) ∧
        ∀ n : Slot, (at1 image (96 + 9 * n.val) = 0 → cfg.sections.get n = none) ∧
          (at1 image (96 + 9 * n.val) = 1 → ∃ sec, cfg.sections.get n = some sec ∧
            sec.number = at2 image (98 + 9 * n.val) ∧ (sec.direct = true ↔ at1 image (97 + 9 * n.val) = 1) ∧
            sec.terms.length = at1 image (100 + 9 * n.val) ∧ sec.state = .disturbed ∧ sec.cause = some .start ∧
            sec.balance = none ∧ sec.swept = false ∧ sec.round = none ∧ sec.holdOff.running = false ∧
            sec.nextTag = 0 ∧ sec.restoreSerial = none ∧ sec.restoreOutcome = .none ∧
            ∀ (i : Nat) (u : Term), sec.terms[i]? = some u →
              let byte := at1 image (101 + 9 * n.val + i)
              (byte < 128 → ∃ p : PointIndex, u.source = .localPoint p ∧ p.val = byte % 16) ∧
              (128 ≤ byte → ∃ m : EntryIndex, u.source = .mirror m ∧ m.val = byte % 16) ∧
              (u.sense = .inwardBA ↔ byte / 64 % 2 = 1) ∧
              u.aAB = 0 ∧ u.aBA = 0 ∧ u.bAB = 0 ∧ u.bBA = 0 ∧ u.aSerial = 0)) ∧
    (¬ goodImage station image →
      ∃ t, exec (.configurationReadComplete (image.flatMap bitsOf)) s = .next t ∧ haltedFrom s t ∧
        t.cause = some .config)

/-- R179, R180, R181, R42, R47, R49, R94, R103, R105, R107, R170, R171: LOADING_TIMER_EXPIRY, at which the entries and
sections of the configuration enter their tables (log 29), and LISTENING_TIMER_EXPIRY, with what the entry to RUNNING makes
pending and what every entry leaves as it stands. -/
def Obligations.PhaseTimersComplete : Prop :=
  (∀ (s : State) (cfg : LoadedConfig), s.mode = .loading → s.loadingTimer.running = true → s.config = some cfg →
    ∃ t, exec .loadingTimerExpiry s = .next t ∧ AttnSound t ∧
      t = { s with
            mode := .listening, loadingTimer := { running := false, elapsed := 0 }
            listeningTimer := { running := true, elapsed := 0 }, mirror := cfg.mirror, sections := cfg.sections
            attn0 := t.attn0, attn1 := t.attn1 }) ∧
  ∀ s : State, s.mode = .listening → s.listeningTimer.running = true → s.tx.entries = [] →
    ∃ t, exec .listeningTimerExpiry s = .next t ∧ AttnSound t ∧
      t = { s with
            mode := .running, listeningTimer := { running := false, elapsed := 0 }, tx := t.tx
            attn0 := t.attn0, attn1 := t.attn1 } ∧
      t.tx = { s.tx with
               entries := t.tx.entries, nextPlace := t.tx.nextPlace, reportTimers := t.tx.reportTimers
               statusTimers := t.tx.statusTimers, startCounters := t.tx.startCounters } ∧
      t.tx.entries.map (fun e => (e.kind, e.cls)) =
        (((List.finRange 4).filter fun p => s.pointInUse p).map fun p => (EntryKind.report p, 3)) ++
          (((List.finRange 8).filter fun n => (s.sections.get n).isSome).map fun n => (EntryKind.status n, 4)) ∧
      (∀ p, s.pointInUse p = true → t.tx.reportTimers.get p = { running := true, elapsed := 0 }) ∧
      (∀ n, (s.sections.get n).isSome = true → t.tx.statusTimers.get n = { running := true, elapsed := 0 }) ∧
      ∀ p, t.tx.startCounters.get p = 50

/-- The table of 10.3 with R175, R178 to R183: the part mode changes by its rows alone; and in HALTED every command but
reset leaves the state as it stands, but that a frame being finished ends at a bit error, with nothing else changed, or at
its completion, with failure count 0 and its START counter spent (R79). -/
def Obligations.ModeTransitionsAndHalted : Prop :=
  ∀ (c : Instr) (s t : State), exec c s = .next t →
    (t.mode ≠ s.mode → transition s c t) ∧
    (s.mode = .halted → (∀ k, 2 ≤ k → c ≠ .resetAssertion k) →
      t = s ∨
      (s.tx.state = .sending ∧ ∃ lf, s.tx.live = some lf ∧
        ((∃ position samples, c = .bitError position samples ∧ frameBit lf.frame position = some (!bitValue samples) ∧
            t = s.withTx { s.tx with state := .quiet, live := none }) ∨
          (∃ samples, c = .frameCompletion samples ∧ bitValue samples = true ∧
            t = s.withTx { s.tx with
              state := .quiet, live := none, failures := 0, next := t.tx.next, startCounters := t.tx.startCounters } ∧
            (s.tx.next = none → t.tx.next = none) ∧
            ∀ p, t.tx.startCounters.get p =
              if lf.frame.startPoint = some p then s.tx.startCounters.get p - 1 else s.tx.startCounters.get p))))

/-- R167: TOGGLE_HALF_PERIOD, at a completion that changes no local term of the slot's section: the 25th takes the line
low, the 50th takes it high with phase 0. Every other completion advances the phase by 1 with the level kept, and is no
half-period (log 3). That the row names the whole sweep completion is the model's (log 4). -/
def Obligations.ToggleHalfPeriodCompletes : Prop :=
  ∀ (s : State) (r : Results) (n : Slot), s.mode.listens = true → (s.lines.get n).toggling = true →
    s.changesReaching (changedPoints s (s.sweepFront r).sweepRecords) n = [] →
    ((s.lines.get n).phase = 24 →
      ∃ t, exec (.toggleHalfPeriod r n) s = .next t ∧ exec (.sweepCompletion r) s = .next t ∧
        t.lines.get n = { toggling := true, high := false, phase := 25 } ∧
        t.sections.get n = s.sections.get n) ∧
    ((s.lines.get n).phase = 49 →
      ∃ t, exec (.toggleHalfPeriod r n) s = .next t ∧ exec (.sweepCompletion r) s = .next t ∧
        t.lines.get n = { toggling := true, high := true, phase := 0 } ∧
        t.sections.get n = s.sections.get n) ∧
    ((s.lines.get n).phase ≠ 24 → (s.lines.get n).phase ≠ 49 →
      exec (.toggleHalfPeriod r n) s = .next s ∧
      ∃ t, exec (.sweepCompletion r) s = .next t ∧
        t.lines.get n = { toggling := true, high := (s.lines.get n).high, phase := (s.lines.get n).phase + 1 } ∧
        t.sections.get n = s.sections.get n)

/-! ## Invariants of every step -/

/-- R112, R115 to R118, R126, R127, R129: sections keep the shape of their states, rest on current sources, and every step
keeps it so. A CLEAR section is therefore in RUNNING, at balance 0, with every term NORMAL, FREE and FRESH. -/
def Obligations.SectionsStaySound : Prop :=
  ∀ s t : State, SectionsKept s → SectionsCurrent s → step s = .next t →
    SectionsKept t ∧ SectionsCurrent t ∧
    ∀ n sec, t.sections.get n = some sec → sec.state = .clear →
      t.mode = .running ∧ sec.balance = some 0 ∧ ∀ u ∈ sec.terms, quiet t u

/-- R114: every step keeps the balance relation. -/
def Obligations.BalanceStaysCongruent : Prop :=
  ∀ s t : State, SectionsKept s → BalanceAgrees s → step s = .next t → BalanceAgrees t

/-- R166, R167: every step keeps each CLEAR line as its slot and the mode say. -/
def Obligations.ClearLinesStaySound : Prop :=
  ∀ s t : State, SectionsKept s → LinesSound s → step s = .next t → LinesSound t

/-- R173, R174: after reset and after every step both ATTN lines are as the routing and the live classes say. -/
def Obligations.AttnLinesStaySound : Prop :=
  AttnSound State.reset ∧ ∀ s t : State, AttnSound s → step s = .next t → AttnSound t

/-- R54, R70: every step leaves every unstarted frame carrying the state as it stands. -/
def Obligations.UnstartedFramesStayCurrent : Prop :=
  ∀ s t : State, TxSound s → FramesCurrent s → step s = .next t → FramesCurrent t

/-- R65 to R68, R71, R134, R135: every step keeps the pending list in order, its keys distinct, its classes and
capacities, and the next layer of the lowest class present. -/
def Obligations.PendingListStaysSound : Prop :=
  ∀ s t : State, SectionsKept s → PendingSound s → step s = .next t → PendingSound t

/-- R60, R81 to R87, R101 to R103: every step keeps the receiver, the FIFO and the handler sound. -/
def Obligations.ReceiverStaysSound : Prop :=
  ∀ s t : State, RxSound s → step s = .next t → RxSound t

/-- R4, R5, R7, R8, R13, R24, R25, R27, R28, R33, R34: every step keeps front end and records sound. -/
def Obligations.PointsStaySound : Prop :=
  ∀ s t : State, PointsSound s → step s = .next t → PointsSound t

/-- R72, R75, R77 to R80, R136; R175 to R183; R94, R95, R99, R102: every step keeps the transmitter, the start-up controller and
the mirror table sound. -/
def Obligations.ControlAndMirrorStaySound : Prop :=
  ∀ s t : State, step s = .next t →
    (TxSound s → TxSound t) ∧ (ModeSound s → ModeSound t) ∧ (ModeSound s → MirrorSound s → MirrorSound t)

/-- The state at reset meets every invariant. -/
def Obligations.ResetMeetsInvariants : Prop :=
  SectionsKept State.reset ∧ SectionsCurrent State.reset ∧ BalanceAgrees State.reset ∧ LinesSound State.reset ∧
    AttnSound State.reset ∧ TxSound State.reset ∧ FramesCurrent State.reset ∧ PendingSound State.reset ∧
    RxSound State.reset ∧ PointsSound State.reset ∧ ModeSound State.reset ∧ MirrorSound State.reset
end

