-- ==== Sys2Proof/Laws/State.lean ====
section
/-! SUPPORT. One lemma for each field and each named update of the state, true by computation. -/

namespace Sys2Proof.Machine

/-! ### `State.withTx` -/

@[simp] theorem State.withTx_pending (s : State) (x : Transmitter) : (s.withTx x).pending = s.pending := rfl
@[simp] theorem State.withTx_mode (s : State) (x : Transmitter) : (s.withTx x).mode = s.mode := rfl
@[simp] theorem State.withTx_cause (s : State) (x : Transmitter) : (s.withTx x).cause = s.cause := rfl
@[simp] theorem State.withTx_station (s : State) (x : Transmitter) : (s.withTx x).station = s.station := rfl
@[simp] theorem State.withTx_config (s : State) (x : Transmitter) : (s.withTx x).config = s.config := rfl
@[simp] theorem State.withTx_cfgSelectLow (s : State) (x : Transmitter) :
    (s.withTx x).cfgSelectLow = s.cfgSelectLow := rfl
@[simp] theorem State.withTx_cfgClock (s : State) (x : Transmitter) :
    (s.withTx x).cfgClock = s.cfgClock := rfl
@[simp] theorem State.withTx_loadingTimer (s : State) (x : Transmitter) :
    (s.withTx x).loadingTimer = s.loadingTimer := rfl
@[simp] theorem State.withTx_listeningTimer (s : State) (x : Transmitter) :
    (s.withTx x).listeningTimer = s.listeningTimer := rfl
@[simp] theorem State.withTx_front (s : State) (x : Transmitter) : (s.withTx x).front = s.front := rfl
@[simp] theorem State.withTx_reference (s : State) (x : Transmitter) : (s.withTx x).reference = s.reference := rfl
@[simp] theorem State.withTx_records (s : State) (x : Transmitter) : (s.withTx x).records = s.records := rfl
@[simp] theorem State.withTx_tx (s : State) (x : Transmitter) : (s.withTx x).tx = x := rfl
@[simp] theorem State.withTx_rx (s : State) (x : Transmitter) : (s.withTx x).rx = s.rx := rfl
@[simp] theorem State.withTx_mirror (s : State) (x : Transmitter) : (s.withTx x).mirror = s.mirror := rfl
@[simp] theorem State.withTx_sections (s : State) (x : Transmitter) : (s.withTx x).sections = s.sections := rfl
@[simp] theorem State.withTx_lines (s : State) (x : Transmitter) : (s.withTx x).lines = s.lines := rfl
@[simp] theorem State.withTx_attn0 (s : State) (x : Transmitter) : (s.withTx x).attn0 = s.attn0 := rfl
@[simp] theorem State.withTx_attn1 (s : State) (x : Transmitter) : (s.withTx x).attn1 = s.attn1 := rfl
@[simp] theorem State.withTx_draws (s : State) (x : Transmitter) : (s.withTx x).draws = s.draws := rfl

/-! ### `State.withRx` -/

@[simp] theorem State.withRx_pending (s : State) (x : Receiver) : (s.withRx x).pending = s.pending := rfl
@[simp] theorem State.withRx_mode (s : State) (x : Receiver) : (s.withRx x).mode = s.mode := rfl
@[simp] theorem State.withRx_cause (s : State) (x : Receiver) : (s.withRx x).cause = s.cause := rfl
@[simp] theorem State.withRx_station (s : State) (x : Receiver) : (s.withRx x).station = s.station := rfl
@[simp] theorem State.withRx_config (s : State) (x : Receiver) : (s.withRx x).config = s.config := rfl
@[simp] theorem State.withRx_cfgSelectLow (s : State) (x : Receiver) :
    (s.withRx x).cfgSelectLow = s.cfgSelectLow := rfl
@[simp] theorem State.withRx_cfgClock (s : State) (x : Receiver) :
    (s.withRx x).cfgClock = s.cfgClock := rfl
@[simp] theorem State.withRx_loadingTimer (s : State) (x : Receiver) :
    (s.withRx x).loadingTimer = s.loadingTimer := rfl
@[simp] theorem State.withRx_listeningTimer (s : State) (x : Receiver) :
    (s.withRx x).listeningTimer = s.listeningTimer := rfl
@[simp] theorem State.withRx_front (s : State) (x : Receiver) : (s.withRx x).front = s.front := rfl
@[simp] theorem State.withRx_reference (s : State) (x : Receiver) : (s.withRx x).reference = s.reference := rfl
@[simp] theorem State.withRx_records (s : State) (x : Receiver) : (s.withRx x).records = s.records := rfl
@[simp] theorem State.withRx_tx (s : State) (x : Receiver) : (s.withRx x).tx = s.tx := rfl
@[simp] theorem State.withRx_rx (s : State) (x : Receiver) : (s.withRx x).rx = x := rfl
@[simp] theorem State.withRx_mirror (s : State) (x : Receiver) : (s.withRx x).mirror = s.mirror := rfl
@[simp] theorem State.withRx_sections (s : State) (x : Receiver) : (s.withRx x).sections = s.sections := rfl
@[simp] theorem State.withRx_lines (s : State) (x : Receiver) : (s.withRx x).lines = s.lines := rfl
@[simp] theorem State.withRx_attn0 (s : State) (x : Receiver) : (s.withRx x).attn0 = s.attn0 := rfl
@[simp] theorem State.withRx_attn1 (s : State) (x : Receiver) : (s.withRx x).attn1 = s.attn1 := rfl
@[simp] theorem State.withRx_draws (s : State) (x : Receiver) : (s.withRx x).draws = s.draws := rfl

/-! ### `State.setSection` -/

@[simp] theorem State.setSection_pending (s : State) (n : Slot) (x : Section) :
    (s.setSection n x).pending = s.pending := rfl
@[simp] theorem State.setSection_mode (s : State) (n : Slot) (x : Section) : (s.setSection n x).mode = s.mode := rfl
@[simp] theorem State.setSection_cause (s : State) (n : Slot) (x : Section) :
    (s.setSection n x).cause = s.cause := rfl
@[simp] theorem State.setSection_station (s : State) (n : Slot) (x : Section) :
    (s.setSection n x).station = s.station := rfl
@[simp] theorem State.setSection_config (s : State) (n : Slot) (x : Section) :
    (s.setSection n x).config = s.config := rfl
@[simp] theorem State.setSection_cfgSelectLow (s : State) (n : Slot) (x : Section) :
    (s.setSection n x).cfgSelectLow = s.cfgSelectLow := rfl
@[simp] theorem State.setSection_cfgClock (s : State) (n : Slot) (x : Section) :
    (s.setSection n x).cfgClock = s.cfgClock := rfl
@[simp] theorem State.setSection_loadingTimer (s : State) (n : Slot) (x : Section) :
    (s.setSection n x).loadingTimer = s.loadingTimer := rfl
@[simp] theorem State.setSection_listeningTimer (s : State) (n : Slot) (x : Section) :
    (s.setSection n x).listeningTimer = s.listeningTimer := rfl
@[simp] theorem State.setSection_front (s : State) (n : Slot) (x : Section) :
    (s.setSection n x).front = s.front := rfl
@[simp] theorem State.setSection_reference (s : State) (n : Slot) (x : Section) :
    (s.setSection n x).reference = s.reference := rfl
@[simp] theorem State.setSection_records (s : State) (n : Slot) (x : Section) :
    (s.setSection n x).records = s.records := rfl
@[simp] theorem State.setSection_tx (s : State) (n : Slot) (x : Section) : (s.setSection n x).tx = s.tx := rfl
@[simp] theorem State.setSection_rx (s : State) (n : Slot) (x : Section) : (s.setSection n x).rx = s.rx := rfl
@[simp] theorem State.setSection_mirror (s : State) (n : Slot) (x : Section) :
    (s.setSection n x).mirror = s.mirror := rfl
@[simp] theorem State.setSection_sections (s : State) (n : Slot) (x : Section) :
    (s.setSection n x).sections = s.sections.set n (some x) := rfl
@[simp] theorem State.setSection_lines (s : State) (n : Slot) (x : Section) :
    (s.setSection n x).lines = s.lines := rfl
@[simp] theorem State.setSection_attn0 (s : State) (n : Slot) (x : Section) :
    (s.setSection n x).attn0 = s.attn0 := rfl
@[simp] theorem State.setSection_attn1 (s : State) (n : Slot) (x : Section) :
    (s.setSection n x).attn1 = s.attn1 := rfl
@[simp] theorem State.setSection_draws (s : State) (n : Slot) (x : Section) :
    (s.setSection n x).draws = s.draws := rfl

/-! ### `State.setMirror` -/

@[simp] theorem State.setMirror_pending (s : State) (m : EntryIndex) (x : MirrorEntry) :
    (s.setMirror m x).pending = s.pending := rfl
@[simp] theorem State.setMirror_mode (s : State) (m : EntryIndex) (x : MirrorEntry) :
    (s.setMirror m x).mode = s.mode := rfl
@[simp] theorem State.setMirror_cause (s : State) (m : EntryIndex) (x : MirrorEntry) :
    (s.setMirror m x).cause = s.cause := rfl
@[simp] theorem State.setMirror_station (s : State) (m : EntryIndex) (x : MirrorEntry) :
    (s.setMirror m x).station = s.station := rfl
@[simp] theorem State.setMirror_config (s : State) (m : EntryIndex) (x : MirrorEntry) :
    (s.setMirror m x).config = s.config := rfl
@[simp] theorem State.setMirror_cfgSelectLow (s : State) (m : EntryIndex) (x : MirrorEntry) :
    (s.setMirror m x).cfgSelectLow = s.cfgSelectLow := rfl
@[simp] theorem State.setMirror_cfgClock (s : State) (m : EntryIndex) (x : MirrorEntry) :
    (s.setMirror m x).cfgClock = s.cfgClock := rfl
@[simp] theorem State.setMirror_loadingTimer (s : State) (m : EntryIndex) (x : MirrorEntry) :
    (s.setMirror m x).loadingTimer = s.loadingTimer := rfl
@[simp] theorem State.setMirror_listeningTimer (s : State) (m : EntryIndex) (x : MirrorEntry) :
    (s.setMirror m x).listeningTimer = s.listeningTimer := rfl
@[simp] theorem State.setMirror_front (s : State) (m : EntryIndex) (x : MirrorEntry) :
    (s.setMirror m x).front = s.front := rfl
@[simp] theorem State.setMirror_reference (s : State) (m : EntryIndex) (x : MirrorEntry) :
    (s.setMirror m x).reference = s.reference := rfl
@[simp] theorem State.setMirror_records (s : State) (m : EntryIndex) (x : MirrorEntry) :
    (s.setMirror m x).records = s.records := rfl
@[simp] theorem State.setMirror_tx (s : State) (m : EntryIndex) (x : MirrorEntry) : (s.setMirror m x).tx = s.tx := rfl
@[simp] theorem State.setMirror_rx (s : State) (m : EntryIndex) (x : MirrorEntry) : (s.setMirror m x).rx = s.rx := rfl
@[simp] theorem State.setMirror_mirror (s : State) (m : EntryIndex) (x : MirrorEntry) :
    (s.setMirror m x).mirror = s.mirror.set m (some x) := rfl
@[simp] theorem State.setMirror_sections (s : State) (m : EntryIndex) (x : MirrorEntry) :
    (s.setMirror m x).sections = s.sections := rfl
@[simp] theorem State.setMirror_lines (s : State) (m : EntryIndex) (x : MirrorEntry) :
    (s.setMirror m x).lines = s.lines := rfl
@[simp] theorem State.setMirror_attn0 (s : State) (m : EntryIndex) (x : MirrorEntry) :
    (s.setMirror m x).attn0 = s.attn0 := rfl
@[simp] theorem State.setMirror_attn1 (s : State) (m : EntryIndex) (x : MirrorEntry) :
    (s.setMirror m x).attn1 = s.attn1 := rfl
@[simp] theorem State.setMirror_draws (s : State) (m : EntryIndex) (x : MirrorEntry) :
    (s.setMirror m x).draws = s.draws := rfl

/-! ### `State.setLine` -/

@[simp] theorem State.setLine_pending (s : State) (n : Slot) (x : ClearLine) :
    (s.setLine n x).pending = s.pending := rfl
@[simp] theorem State.setLine_mode (s : State) (n : Slot) (x : ClearLine) : (s.setLine n x).mode = s.mode := rfl
@[simp] theorem State.setLine_cause (s : State) (n : Slot) (x : ClearLine) : (s.setLine n x).cause = s.cause := rfl
@[simp] theorem State.setLine_station (s : State) (n : Slot) (x : ClearLine) :
    (s.setLine n x).station = s.station := rfl
@[simp] theorem State.setLine_config (s : State) (n : Slot) (x : ClearLine) : (s.setLine n x).config = s.config := rfl
@[simp] theorem State.setLine_cfgSelectLow (s : State) (n : Slot) (x : ClearLine) :
    (s.setLine n x).cfgSelectLow = s.cfgSelectLow := rfl
@[simp] theorem State.setLine_cfgClock (s : State) (n : Slot) (x : ClearLine) :
    (s.setLine n x).cfgClock = s.cfgClock := rfl
@[simp] theorem State.setLine_loadingTimer (s : State) (n : Slot) (x : ClearLine) :
    (s.setLine n x).loadingTimer = s.loadingTimer := rfl
@[simp] theorem State.setLine_listeningTimer (s : State) (n : Slot) (x : ClearLine) :
    (s.setLine n x).listeningTimer = s.listeningTimer := rfl
@[simp] theorem State.setLine_front (s : State) (n : Slot) (x : ClearLine) : (s.setLine n x).front = s.front := rfl
@[simp] theorem State.setLine_reference (s : State) (n : Slot) (x : ClearLine) :
    (s.setLine n x).reference = s.reference := rfl
@[simp] theorem State.setLine_records (s : State) (n : Slot) (x : ClearLine) :
    (s.setLine n x).records = s.records := rfl
@[simp] theorem State.setLine_tx (s : State) (n : Slot) (x : ClearLine) : (s.setLine n x).tx = s.tx := rfl
@[simp] theorem State.setLine_rx (s : State) (n : Slot) (x : ClearLine) : (s.setLine n x).rx = s.rx := rfl
@[simp] theorem State.setLine_mirror (s : State) (n : Slot) (x : ClearLine) : (s.setLine n x).mirror = s.mirror := rfl
@[simp] theorem State.setLine_sections (s : State) (n : Slot) (x : ClearLine) :
    (s.setLine n x).sections = s.sections := rfl
@[simp] theorem State.setLine_lines (s : State) (n : Slot) (x : ClearLine) :
    (s.setLine n x).lines = s.lines.set n x := rfl
@[simp] theorem State.setLine_attn0 (s : State) (n : Slot) (x : ClearLine) : (s.setLine n x).attn0 = s.attn0 := rfl
@[simp] theorem State.setLine_attn1 (s : State) (n : Slot) (x : ClearLine) : (s.setLine n x).attn1 = s.attn1 := rfl
@[simp] theorem State.setLine_draws (s : State) (n : Slot) (x : ClearLine) : (s.setLine n x).draws = s.draws := rfl

/-! ### `State.driveAttn` -/

@[simp] theorem State.driveAttn_pending (s : State) : s.driveAttn.pending = s.pending := rfl
@[simp] theorem State.driveAttn_mode (s : State) : s.driveAttn.mode = s.mode := rfl
@[simp] theorem State.driveAttn_cause (s : State) : s.driveAttn.cause = s.cause := rfl
@[simp] theorem State.driveAttn_station (s : State) : s.driveAttn.station = s.station := rfl
@[simp] theorem State.driveAttn_config (s : State) : s.driveAttn.config = s.config := rfl
@[simp] theorem State.driveAttn_cfgSelectLow (s : State) : s.driveAttn.cfgSelectLow = s.cfgSelectLow := rfl
@[simp] theorem State.driveAttn_cfgClock (s : State) : s.driveAttn.cfgClock = s.cfgClock := rfl
@[simp] theorem State.driveAttn_loadingTimer (s : State) : s.driveAttn.loadingTimer = s.loadingTimer := rfl
@[simp] theorem State.driveAttn_listeningTimer (s : State) : s.driveAttn.listeningTimer = s.listeningTimer := rfl
@[simp] theorem State.driveAttn_front (s : State) : s.driveAttn.front = s.front := rfl
@[simp] theorem State.driveAttn_reference (s : State) : s.driveAttn.reference = s.reference := rfl
@[simp] theorem State.driveAttn_records (s : State) : s.driveAttn.records = s.records := rfl
@[simp] theorem State.driveAttn_tx (s : State) : s.driveAttn.tx = s.tx := rfl
@[simp] theorem State.driveAttn_rx (s : State) : s.driveAttn.rx = s.rx := rfl
@[simp] theorem State.driveAttn_mirror (s : State) : s.driveAttn.mirror = s.mirror := rfl
@[simp] theorem State.driveAttn_sections (s : State) : s.driveAttn.sections = s.sections := rfl
@[simp] theorem State.driveAttn_lines (s : State) : s.driveAttn.lines = s.lines := rfl
@[simp] theorem State.driveAttn_attn0 (s : State) : s.driveAttn.attn0 = s.attnLevel false := rfl
@[simp] theorem State.driveAttn_attn1 (s : State) : s.driveAttn.attn1 = s.attnLevel true := rfl
@[simp] theorem State.driveAttn_draws (s : State) : s.driveAttn.draws = s.draws := rfl

/-! ### `State.sweepFront` -/

@[simp] theorem State.sweepFront_pending (s : State) (r : Results) : (s.sweepFront r).pending = s.pending := rfl
@[simp] theorem State.sweepFront_mode (s : State) (r : Results) : (s.sweepFront r).mode = s.mode := rfl
@[simp] theorem State.sweepFront_cause (s : State) (r : Results) : (s.sweepFront r).cause = s.cause := rfl
@[simp] theorem State.sweepFront_station (s : State) (r : Results) : (s.sweepFront r).station = s.station := rfl
@[simp] theorem State.sweepFront_config (s : State) (r : Results) : (s.sweepFront r).config = s.config := rfl
@[simp] theorem State.sweepFront_cfgSelectLow (s : State) (r : Results) :
    (s.sweepFront r).cfgSelectLow = s.cfgSelectLow := rfl
@[simp] theorem State.sweepFront_cfgClock (s : State) (r : Results) :
    (s.sweepFront r).cfgClock = s.cfgClock := rfl
@[simp] theorem State.sweepFront_loadingTimer (s : State) (r : Results) :
    (s.sweepFront r).loadingTimer = s.loadingTimer := rfl
@[simp] theorem State.sweepFront_listeningTimer (s : State) (r : Results) :
    (s.sweepFront r).listeningTimer = s.listeningTimer := rfl
@[simp] theorem State.sweepFront_reference (s : State) (r : Results) :
    (s.sweepFront r).reference = s.reference.sweep r.reference := rfl
@[simp] theorem State.sweepFront_records (s : State) (r : Results) : (s.sweepFront r).records = s.records := rfl
@[simp] theorem State.sweepFront_tx (s : State) (r : Results) : (s.sweepFront r).tx = s.tx := rfl
@[simp] theorem State.sweepFront_rx (s : State) (r : Results) : (s.sweepFront r).rx = s.rx := rfl
@[simp] theorem State.sweepFront_mirror (s : State) (r : Results) : (s.sweepFront r).mirror = s.mirror := rfl
@[simp] theorem State.sweepFront_sections (s : State) (r : Results) : (s.sweepFront r).sections = s.sections := rfl
@[simp] theorem State.sweepFront_lines (s : State) (r : Results) : (s.sweepFront r).lines = s.lines := rfl
@[simp] theorem State.sweepFront_attn0 (s : State) (r : Results) : (s.sweepFront r).attn0 = s.attn0 := rfl
@[simp] theorem State.sweepFront_attn1 (s : State) (r : Results) : (s.sweepFront r).attn1 = s.attn1 := rfl
@[simp] theorem State.sweepFront_draws (s : State) (r : Results) : (s.sweepFront r).draws = s.draws := rfl

/-! ### `State.sweepRecords` -/

@[simp] theorem State.sweepRecords_pending (s : State) : s.sweepRecords.pending = s.pending := rfl
@[simp] theorem State.sweepRecords_mode (s : State) : s.sweepRecords.mode = s.mode := rfl
@[simp] theorem State.sweepRecords_cause (s : State) : s.sweepRecords.cause = s.cause := rfl
@[simp] theorem State.sweepRecords_station (s : State) : s.sweepRecords.station = s.station := rfl
@[simp] theorem State.sweepRecords_config (s : State) : s.sweepRecords.config = s.config := rfl
@[simp] theorem State.sweepRecords_cfgSelectLow (s : State) : s.sweepRecords.cfgSelectLow = s.cfgSelectLow := rfl
@[simp] theorem State.sweepRecords_cfgClock (s : State) : s.sweepRecords.cfgClock = s.cfgClock := rfl
@[simp] theorem State.sweepRecords_loadingTimer (s : State) : s.sweepRecords.loadingTimer = s.loadingTimer := rfl
@[simp] theorem State.sweepRecords_listeningTimer (s : State) :
    s.sweepRecords.listeningTimer = s.listeningTimer := rfl
@[simp] theorem State.sweepRecords_front (s : State) : s.sweepRecords.front = s.front := rfl
@[simp] theorem State.sweepRecords_reference (s : State) : s.sweepRecords.reference = s.reference := rfl
@[simp] theorem State.sweepRecords_records (s : State) : s.sweepRecords.records = .tabulate s.evaluatedRecord := rfl
@[simp] theorem State.sweepRecords_tx (s : State) : s.sweepRecords.tx = s.tx := rfl
@[simp] theorem State.sweepRecords_rx (s : State) : s.sweepRecords.rx = s.rx := rfl
@[simp] theorem State.sweepRecords_mirror (s : State) : s.sweepRecords.mirror = s.mirror := rfl
@[simp] theorem State.sweepRecords_sections (s : State) : s.sweepRecords.sections = s.sections := rfl
@[simp] theorem State.sweepRecords_lines (s : State) : s.sweepRecords.lines = s.lines := rfl
@[simp] theorem State.sweepRecords_attn0 (s : State) : s.sweepRecords.attn0 = s.attn0 := rfl
@[simp] theorem State.sweepRecords_attn1 (s : State) : s.sweepRecords.attn1 = s.attn1 := rfl
@[simp] theorem State.sweepRecords_draws (s : State) : s.sweepRecords.draws = s.draws := rfl

/-! ### `State.returnToWaiting` -/

@[simp] theorem State.returnToWaiting_pending (s : State) : s.returnToWaiting.pending = s.pending := rfl
@[simp] theorem State.returnToWaiting_mode (s : State) : s.returnToWaiting.mode = s.mode := rfl
@[simp] theorem State.returnToWaiting_cause (s : State) : s.returnToWaiting.cause = s.cause := rfl
@[simp] theorem State.returnToWaiting_station (s : State) : s.returnToWaiting.station = s.station := rfl
@[simp] theorem State.returnToWaiting_config (s : State) : s.returnToWaiting.config = s.config := rfl
@[simp] theorem State.returnToWaiting_cfgSelectLow (s : State) :
    s.returnToWaiting.cfgSelectLow = s.cfgSelectLow := rfl
@[simp] theorem State.returnToWaiting_cfgClock (s : State) :
    s.returnToWaiting.cfgClock = s.cfgClock := rfl
@[simp] theorem State.returnToWaiting_loadingTimer (s : State) :
    s.returnToWaiting.loadingTimer = s.loadingTimer := rfl
@[simp] theorem State.returnToWaiting_listeningTimer (s : State) :
    s.returnToWaiting.listeningTimer = s.listeningTimer := rfl
@[simp] theorem State.returnToWaiting_front (s : State) : s.returnToWaiting.front = s.front := rfl
@[simp] theorem State.returnToWaiting_reference (s : State) : s.returnToWaiting.reference = s.reference := rfl
@[simp] theorem State.returnToWaiting_records (s : State) : s.returnToWaiting.records = s.records := rfl
@[simp] theorem State.returnToWaiting_rx (s : State) : s.returnToWaiting.rx = s.rx := rfl
@[simp] theorem State.returnToWaiting_mirror (s : State) : s.returnToWaiting.mirror = s.mirror := rfl
@[simp] theorem State.returnToWaiting_sections (s : State) : s.returnToWaiting.sections = s.sections := rfl
@[simp] theorem State.returnToWaiting_lines (s : State) : s.returnToWaiting.lines = s.lines := rfl
@[simp] theorem State.returnToWaiting_attn0 (s : State) : s.returnToWaiting.attn0 = s.attn0 := rfl
@[simp] theorem State.returnToWaiting_attn1 (s : State) : s.returnToWaiting.attn1 = s.attn1 := rfl
@[simp] theorem State.returnToWaiting_draws (s : State) : s.returnToWaiting.draws = s.draws := rfl

/-! ### Two updates in a row -/

@[simp] theorem State.withTx_withTx (s : State) (x y : Transmitter) : (s.withTx x).withTx y = s.withTx y := rfl
@[simp] theorem State.withRx_withRx (s : State) (x y : Receiver) : (s.withRx x).withRx y = s.withRx y := rfl
@[simp] theorem State.withTx_tx_self (s : State) : s.withTx s.tx = s := rfl
@[simp] theorem State.withRx_rx_self (s : State) : s.withRx s.rx = s := rfl

end Sys2Proof.Machine
end

