-- ==== Sys2Proof/Laws/Attn.lean ====
section
/-! SUPPORT. Driving the ATTN lines writes those two pins alone. -/

namespace Sys2Proof.Machine

/-- Driving the lines twice is driving them once. -/
@[simp] theorem State.driveAttn_driveAttn (s : State) : s.driveAttn.driveAttn = s.driveAttn := rfl

/-- The level of an ATTN line depends on the mode, the configuration, the sections, the records and the mirror table
alone (R172 to R174). -/
theorem State.attnLevel_congr {s t : State} (mode : s.mode = t.mode) (config : s.config = t.config)
    (sections : s.sections = t.sections) (records : s.records = t.records) (mirror : s.mirror = t.mirror)
    (line : Bool) : s.attnLevel line = t.attnLevel line := by
  have live : ∀ c, s.attnLive c = t.attnLive c := by
    intro c
    cases c
    · unfold State.attnLive State.slotDisturbed; rw [sections]
    · unfold State.attnLive State.pointInUse State.pointConfig; rw [records, config]
    · unfold State.attnLive State.pointInUse State.pointConfig; rw [records, config]
    · unfold State.attnLive State.entryNotFresh; rw [mirror]
  unfold State.attnLevel State.attnRouted State.attnRouting
  simp only [mode, config, live]

end Sys2Proof.Machine
end

