-- ==== Sys2Proof/Laws/Balance.lean ====
section
/-! SUPPORT. What each part of an evaluation can make of a section: one lemma for each operation of the section engine. -/

namespace Sys2Proof.Machine

/-- Entry to DISTURBED, unless the section is there already (R115). -/
theorem Section.disturb_cases (cause : DisturbanceCause) (sec : Section) :
    (sec.state = .disturbed ∧ sec.disturb cause = sec) ∨
      (sec.state ≠ .disturbed ∧
        sec.disturb cause =
          { sec with
            state := .disturbed, balance := none, cause := some cause, round := none, holdOff := .stopped }) := by
  unfold Section.disturb
  by_cases h : sec.state = .disturbed
  · exact .inl ⟨h, if_pos h⟩
  · exact .inr ⟨h, if_neg h⟩

@[simp] theorem Section.disturb_state (cause : DisturbanceCause) (sec : Section) :
    (sec.disturb cause).state = .disturbed := by
  rcases sec.disturb_cases cause with ⟨h, e⟩ | ⟨_, e⟩ <;> rw [e]
  exact h

@[simp] theorem Section.disturb_terms (cause : DisturbanceCause) (sec : Section) :
    (sec.disturb cause).terms = sec.terms := by
  rcases sec.disturb_cases cause with ⟨_, e⟩ | ⟨_, e⟩ <;> rw [e]

/-- The net contribution reaches the balance, or takes the section out of its range (R112). -/
theorem Section.applyNet_cases (net : Int) (sec : Section) :
    (sec.balance = none ∧ sec.applyNet net = sec) ∨
      ∃ b, sec.balance = some b ∧
        (((b : Int) + net < 0 ∧ sec.applyNet net = sec.disturb .underflow) ∨
          (1023 < (b : Int) + net ∧ sec.applyNet net = sec.disturb .overflow) ∨
          ∃ b' : Nat, (b' : Int) = b + net ∧ b' ≤ 1023 ∧ sec.applyNet net = { sec with balance := some b' }) := by
  unfold Section.applyNet
  cases sec.balance with
  | none => exact .inl ⟨rfl, rfl⟩
  | some b =>
    refine .inr ⟨b, rfl, ?_⟩
    dsimp only
    split
    · exact .inl ⟨‹_›, rfl⟩
    · split
      · exact .inr (.inl ⟨‹_›, rfl⟩)
      · rename_i h1 h2
        simp only [Config.balanceLimit, Nat.cast_ofNat] at h2
        exact .inr (.inr ⟨((b : Int) + net).toNat, by omega, by omega, rfl⟩)

@[simp] theorem Section.applyNet_terms (net : Int) (sec : Section) : (sec.applyNet net).terms = sec.terms := by
  rcases sec.applyNet_cases net with ⟨_, e⟩ | ⟨b, _, ⟨_, e⟩ | ⟨_, e⟩ | ⟨b', _, _, e⟩⟩ <;> rw [e] <;> simp

/-- Entry to SETTLING: CLEAR at once, or a round (R132, R133). -/
theorem Section.enterSettling_cases (sec : Section) :
    (sec.hasRemote = false ∧ sec.enterSettling = { sec with state := .clear }) ∨
      (sec.hasRemote = true ∧
        sec.enterSettling =
          { sec with
            state := .settling
            round :=
              some { id := sec.rounds, tag := sec.nextTag, unanswered := sec.remotePositions, deadline := .started }
            rounds := sec.rounds + 1
            nextTag := sec.nextTag + 1 }) := by
  unfold Section.enterSettling
  cases h : sec.hasRemote
  · exact .inl ⟨rfl, rfl⟩
  · exact .inr ⟨rfl, rfl⟩

@[simp] theorem Section.enterSettling_terms (sec : Section) : sec.enterSettling.terms = sec.terms := by
  rcases sec.enterSettling_cases with ⟨_, e⟩ | ⟨_, e⟩ <;> rw [e]

@[simp] theorem Section.enterSettling_balance (sec : Section) : sec.enterSettling.balance = sec.balance := by
  rcases sec.enterSettling_cases with ⟨_, e⟩ | ⟨_, e⟩ <;> rw [e]

/-- A section has a remote term exactly where a round would have a term to await. -/
theorem Section.remotePositions_ne_nil {sec : Section} (h : sec.hasRemote = true) : sec.remotePositions ≠ [] := by
  unfold Section.hasRemote at h
  obtain ⟨t, ht, hr⟩ := List.any_eq_true.1 h
  obtain ⟨i, hi, rfl⟩ := List.getElem_of_mem ht
  intro e
  have : i ∈ sec.remotePositions := by
    simp [Section.remotePositions, hi, hr]
  rw [e] at this
  cases this

/-- The settle-entry condition, as R125 words it. -/
theorem State.meetsSettleEntry_iff (s : State) (sec : Section) :
    s.meetsSettleEntry sec = true ↔
      (sec.state = .occupied ∨ (sec.state = .proving ∧ sec.swept = true)) ∧ sec.holdOff.running = false ∧
        sec.balance = some 0 ∧ s.allQuiet sec = true := by
  unfold State.meetsSettleEntry
  simp [and_assoc]

/-- The settle-entry test (R109, step 6). -/
theorem State.settleTest_cases (s : State) (sec : Section) :
    (s.meetsSettleEntry sec = true ∧ s.settleTest sec = sec.enterSettling) ∨
      (s.meetsSettleEntry sec = false ∧ s.settleTest sec = sec) := by
  unfold State.settleTest
  cases h : s.meetsSettleEntry sec
  · exact .inr ⟨rfl, rfl⟩
  · exact .inl ⟨rfl, rfl⟩

@[simp] theorem State.settleTest_terms (s : State) (sec : Section) : (s.settleTest sec).terms = sec.terms := by
  rcases s.settleTest_cases sec with ⟨_, e⟩ | ⟨_, e⟩ <;> rw [e]
  exact sec.enterSettling_terms

@[simp] theorem State.settleTest_balance (s : State) (sec : Section) : (s.settleTest sec).balance = sec.balance := by
  rcases s.settleTest_cases sec with ⟨_, e⟩ | ⟨_, e⟩ <;> rw [e]
  exact sec.enterSettling_balance

/-- Only an OCCUPIED or a swept PROVING section enters SETTLING by the test; any other passes it unchanged (R125). -/
theorem State.settleTest_of_state (s : State) {sec : Section}
    (h : sec.state = .disturbed ∨ sec.state = .settling ∨ sec.state = .clear) : s.settleTest sec = sec := by
  rcases s.settleTest_cases sec with ⟨m, _⟩ | ⟨_, e⟩
  · have := ((s.meetsSettleEntry_iff sec).1 m).1
    rcases h with h | h | h <;> simp [h] at this
  · exact e

/-- Steps 1 to 3 of R109. -/
theorem Section.takeCounts_cases (notice : Option DisturbanceCause) (src : TermSource) (v : SourceView) (sec : Section) :
    (sec.state = .disturbed ∧ sec.takeCounts notice src v = sec) ∨
      (sec.state ≠ .disturbed ∧ ∃ cause, notice = some cause ∧ sec.takeCounts notice src v = sec.disturb cause) ∨
      (sec.state ≠ .disturbed ∧ notice = none ∧ sec.pointDisturbed src v = true ∧
        sec.takeCounts notice src v = sec.disturb .point) ∨
      (sec.state ≠ .disturbed ∧ notice = none ∧ sec.pointDisturbed src v = false ∧
        sec.takeCounts notice src v = sec.applyNet (sec.netContribution src v)) := by
  by_cases hd : sec.state = .disturbed
  · exact .inl ⟨hd, by unfold Section.takeCounts; rw [hd]⟩
  · cases notice with
    | some cause =>
      refine .inr (.inl ⟨hd, cause, rfl, ?_⟩)
      unfold Section.takeCounts
      split <;> simp_all
    | none =>
      cases hp : sec.pointDisturbed src v
      · refine .inr (.inr (.inr ⟨hd, rfl, rfl, ?_⟩))
        unfold Section.takeCounts
        split <;> simp_all
      · refine .inr (.inr (.inl ⟨hd, rfl, rfl, ?_⟩))
        unfold Section.takeCounts
        split <;> simp_all

@[simp] theorem Section.takeCounts_terms (notice : Option DisturbanceCause) (src : TermSource) (v : SourceView)
    (sec : Section) : (sec.takeCounts notice src v).terms = sec.terms := by
  rcases sec.takeCounts_cases notice src v with ⟨_, e⟩ | ⟨_, c, _, e⟩ | ⟨_, _, _, e⟩ | ⟨_, _, _, e⟩ <;> rw [e] <;> simp

/-- Step 5 of R109 changes terms and balance in no state. -/
@[simp] theorem Section.stateOutcome_terms (net : Int) (head : Head) (sec : Section) :
    (sec.stateOutcome net head).terms = sec.terms := by
  unfold Section.stateOutcome
  split <;> first | rfl | (split <;> rfl)

@[simp] theorem Section.stateOutcome_balance (net : Int) (head : Head) (sec : Section) :
    (sec.stateOutcome net head).balance = sec.balance := by
  unfold Section.stateOutcome
  split <;> first | rfl | (split <;> rfl)

/-- The terms after an evaluation: those on the source follow it (R109, step 4). -/
theorem State.evaluateSection_terms {s : State} {src : TermSource} {v : SourceView} (h : s.source src = some v)
    (notice : Option DisturbanceCause) (sec : Section) :
    (s.evaluateSection notice src sec).terms = sec.terms.map (Term.follow src v) := by
  unfold State.evaluateSection
  rw [h]
  simp [Section.takeEvent]

/-- A source that shows nothing reaches no section (R106). -/
theorem State.evaluateSection_absent {s : State} {src : TermSource} (h : s.source src = none)
    (notice : Option DisturbanceCause) (sec : Section) : s.evaluateSection notice src sec = sec := by
  unfold State.evaluateSection
  rw [h]

/-- An answer at the settlement logic (R137 to R139). -/
theorem State.takeAnswer_cases (s : State) (tag : Serial) (station : Station) (p : PointIndex) (mark : Bool)
    (sec : Section) :
    s.takeAnswer tag station p mark sec = sec ∨
      ∃ r, sec.round = some r ∧ s.answerCounts tag station p mark sec r = true ∧
        ((s.stillUnanswered station p sec r = [] ∧
            s.takeAnswer tag station p mark sec = { sec with state := .clear, round := none }) ∨
          (s.stillUnanswered station p sec r ≠ [] ∧
            s.takeAnswer tag station p mark sec =
              { sec with round := some { r with unanswered := s.stillUnanswered station p sec r } })) := by
  cases hr : sec.round with
  | none => exact .inl (by unfold State.takeAnswer; rw [hr])
  | some r =>
    cases hc : s.answerCounts tag station p mark sec r
    · exact .inl (by unfold State.takeAnswer; simp [hr, hc])
    · refine .inr ⟨r, rfl, hc, ?_⟩
      cases hu : s.stillUnanswered station p sec r with
      | nil => exact .inl ⟨rfl, by unfold State.takeAnswer; simp [hr, hc, hu]⟩
      | cons i rest => exact .inr ⟨by simp, by unfold State.takeAnswer; simp [hr, hc, hu]⟩

/-- The expiry of a deadline (R143). -/
theorem Section.expireDeadline_cases (sec : Section) :
    (sec.round = none ∧ sec.expireDeadline = sec) ∨
      (sec.round.isSome = true ∧
        sec.expireDeadline = { sec with state := .occupied, round := none, holdOff := .started }) := by
  unfold Section.expireDeadline
  cases h : sec.round with
  | none => exact .inl ⟨rfl, rfl⟩
  | some r => exact .inr ⟨rfl, rfl⟩

/-- A section just restored is PROVING with swept clear, so the settle-entry test passes it unchanged (R161). -/
theorem State.acceptRestore_prove (s : State) (sec : Section) : s.acceptRestore false sec = s.restoredSection sec := by
  unfold State.acceptRestore
  rcases s.settleTest_cases (s.restoredSection sec) with ⟨m, _⟩ | ⟨_, e⟩
  · have := ((s.meetsSettleEntry_iff _).1 m).1
    simp [State.restoredSection] at this
  · simpa using e

/-- A command of an authorized station (R155, R156). -/
theorem State.takeRestore_cases (s : State) (direct : Bool) (serial : Serial) (sec : Section) :
    (sec.restoreSerial = some serial ∧ s.takeRestore direct serial sec = sec) ∨
      (sec.restoreSerial ≠ some serial ∧ s.restoreVerdict direct sec ≠ .accepted ∧
        s.takeRestore direct serial sec =
          { sec with restoreSerial := some serial, restoreOutcome := s.restoreVerdict direct sec }) ∨
      (sec.restoreSerial ≠ some serial ∧ s.restoreVerdict direct sec = .accepted ∧
        s.takeRestore direct serial sec =
          { s.acceptRestore direct sec with restoreSerial := some serial, restoreOutcome := .accepted }) := by
  unfold State.takeRestore Section.isDuplicate
  by_cases hd : sec.restoreSerial = some serial
  · exact .inl ⟨hd, by simp [hd]⟩
  · by_cases hv : s.restoreVerdict direct sec = .accepted
    · exact .inr (.inr ⟨hd, hv, by simp [hd, hv]⟩)
    · exact .inr (.inl ⟨hd, hv, by simp [hd, hv]⟩)

end Sys2Proof.Machine
end

