-- ==== Sys2Proof/Laws/Table.lean ====
section
/-! SUPPORT. Reading a table after each way of writing one. -/

namespace Sys2Proof

@[simp] theorem Table.get_tabulate {α : Type} {n : Nat} (f : Fin n → α) (i : Fin n) :
    (Table.tabulate f).get i = f i := by
  simp [Table.get, Table.tabulate]

@[simp] theorem Table.get_const {α : Type} {n : Nat} (v : α) (i : Fin n) : (Table.const n v).get i = v := by
  simp [Table.const]

@[simp] theorem Table.get_map {α β : Type} {n : Nat} (f : α → β) (t : Table α n) (i : Fin n) :
    (t.map f).get i = f (t.get i) := by
  simp [Table.map]

theorem Table.get_set {α : Type} {n : Nat} (t : Table α n) (i j : Fin n) (v : α) :
    (t.set i v).get j = if j = i then v else t.get j := by
  simp [Table.set]

@[simp] theorem Table.get_set_same {α : Type} {n : Nat} (t : Table α n) (i : Fin n) (v : α) :
    (t.set i v).get i = v := by
  simp [Table.get_set]

theorem Table.get_set_other {α : Type} {n : Nat} (t : Table α n) {i j : Fin n} (v : α) (h : j ≠ i) :
    (t.set i v).get j = t.get j := by
  simp [Table.get_set, h]

/-- Two tables that read alike are one. -/
@[ext] theorem Table.ext_get {α : Type} {n : Nat} {t u : Table α n} (h : ∀ i, t.get i = u.get i) : t = u := by
  obtain ⟨a, ha⟩ := t
  obtain ⟨b, hb⟩ := u
  have : a = b := by
    apply List.ext_getElem (by rw [ha, hb])
    intro i h1 _
    exact h ⟨i, by rwa [ha] at h1⟩
  subst this
  rfl

/-- Writing what stands there changes nothing. -/
@[simp] theorem Table.set_get {α : Type} {n : Nat} (t : Table α n) (i : Fin n) : t.set i (t.get i) = t := by
  ext j
  by_cases h : j = i <;> simp [Table.get_set, h]

/-- A later write to the same place is the one that counts. -/
@[simp] theorem Table.set_set {α : Type} {n : Nat} (t : Table α n) (i : Fin n) (v w : α) :
    (t.set i v).set i w = t.set i w := by
  ext j
  by_cases h : j = i <;> simp [Table.get_set, h]

end Sys2Proof
end

