-- ==== Sys2Proof/Laws/Transmitter.lean ====
section
/-! SUPPORT. What the shared operations of the transmitter can change: the transmitter alone. -/

namespace Sys2Proof.Machine

/-- Loading changes the transmitter alone. -/
theorem State.loadNext_eq (s : State) : s.loadNext = s.withTx s.loadNext.tx := by
  unfold State.loadNext
  split <;> rfl

/-- Preemption changes the transmitter alone. -/
theorem State.preempt_eq (s : State) : s.preempt = s.withTx s.preempt.tx := by
  unfold State.preempt
  split
  · rfl
  · split
    · rw [State.loadNext_eq]
      rfl
    · rfl

/-- A point change changes the transmitter alone at the transmitter. -/
theorem State.pointChangeDue_eq (s : State) (p : PointIndex) :
    s.pointChangeDue p = s.withTx (s.pointChangeDue p).tx := by
  unfold State.pointChangeDue
  split <;> rfl

/-- A section change changes the transmitter alone at the transmitter. -/
theorem State.sectionChangeDue_eq (s : State) (n : Slot) :
    s.sectionChangeDue n = s.withTx (s.sectionChangeDue n).tx := by
  unfold State.sectionChangeDue
  split <;> rfl

/-- Spending a START frame changes the transmitter alone. -/
theorem State.spendStart_eq (s : State) (f : Frame) : s.spendStart f = s.withTx (s.spendStart f).tx := by
  unfold State.spendStart
  split
  · rfl
  · dsimp only
    split <;> rfl

/-- A refresh changes the transmitter alone. -/
theorem State.refresh_eq (s : State) (concerns : EntryKind → Bool) (newClass : EntryKind → Nat → Nat) :
    s.refresh concerns newClass = s.withTx (s.refresh concerns newClass).tx := rfl

/-! ### `State.loadNext` -/

@[simp] theorem State.loadNext_pending (s : State) : s.loadNext.pending = s.pending := by
  rw [State.loadNext_eq, State.withTx_pending]
@[simp] theorem State.loadNext_mode (s : State) : s.loadNext.mode = s.mode := by
  rw [State.loadNext_eq, State.withTx_mode]
@[simp] theorem State.loadNext_cause (s : State) : s.loadNext.cause = s.cause := by
  rw [State.loadNext_eq, State.withTx_cause]
@[simp] theorem State.loadNext_station (s : State) : s.loadNext.station = s.station := by
  rw [State.loadNext_eq, State.withTx_station]
@[simp] theorem State.loadNext_config (s : State) : s.loadNext.config = s.config := by
  rw [State.loadNext_eq, State.withTx_config]
@[simp] theorem State.loadNext_cfgSelectLow (s : State) : s.loadNext.cfgSelectLow = s.cfgSelectLow := by
  rw [State.loadNext_eq, State.withTx_cfgSelectLow]
@[simp] theorem State.loadNext_cfgClock (s : State) : s.loadNext.cfgClock = s.cfgClock := by
  rw [State.loadNext_eq, State.withTx_cfgClock]
@[simp] theorem State.loadNext_loadingTimer (s : State) : s.loadNext.loadingTimer = s.loadingTimer := by
  rw [State.loadNext_eq, State.withTx_loadingTimer]
@[simp] theorem State.loadNext_listeningTimer (s : State) : s.loadNext.listeningTimer = s.listeningTimer := by
  rw [State.loadNext_eq, State.withTx_listeningTimer]
@[simp] theorem State.loadNext_front (s : State) : s.loadNext.front = s.front := by
  rw [State.loadNext_eq, State.withTx_front]
@[simp] theorem State.loadNext_reference (s : State) : s.loadNext.reference = s.reference := by
  rw [State.loadNext_eq, State.withTx_reference]
@[simp] theorem State.loadNext_records (s : State) : s.loadNext.records = s.records := by
  rw [State.loadNext_eq, State.withTx_records]
@[simp] theorem State.loadNext_rx (s : State) : s.loadNext.rx = s.rx := by
  rw [State.loadNext_eq, State.withTx_rx]
@[simp] theorem State.loadNext_mirror (s : State) : s.loadNext.mirror = s.mirror := by
  rw [State.loadNext_eq, State.withTx_mirror]
@[simp] theorem State.loadNext_sections (s : State) : s.loadNext.sections = s.sections := by
  rw [State.loadNext_eq, State.withTx_sections]
@[simp] theorem State.loadNext_lines (s : State) : s.loadNext.lines = s.lines := by
  rw [State.loadNext_eq, State.withTx_lines]
@[simp] theorem State.loadNext_attn0 (s : State) : s.loadNext.attn0 = s.attn0 := by
  rw [State.loadNext_eq, State.withTx_attn0]
@[simp] theorem State.loadNext_attn1 (s : State) : s.loadNext.attn1 = s.attn1 := by
  rw [State.loadNext_eq, State.withTx_attn1]
@[simp] theorem State.loadNext_draws (s : State) : s.loadNext.draws = s.draws := by
  rw [State.loadNext_eq, State.withTx_draws]

/-! ### `State.preempt` -/

@[simp] theorem State.preempt_pending (s : State) : s.preempt.pending = s.pending := by
  rw [State.preempt_eq, State.withTx_pending]
@[simp] theorem State.preempt_mode (s : State) : s.preempt.mode = s.mode := by
  rw [State.preempt_eq, State.withTx_mode]
@[simp] theorem State.preempt_cause (s : State) : s.preempt.cause = s.cause := by
  rw [State.preempt_eq, State.withTx_cause]
@[simp] theorem State.preempt_station (s : State) : s.preempt.station = s.station := by
  rw [State.preempt_eq, State.withTx_station]
@[simp] theorem State.preempt_config (s : State) : s.preempt.config = s.config := by
  rw [State.preempt_eq, State.withTx_config]
@[simp] theorem State.preempt_cfgSelectLow (s : State) : s.preempt.cfgSelectLow = s.cfgSelectLow := by
  rw [State.preempt_eq, State.withTx_cfgSelectLow]
@[simp] theorem State.preempt_cfgClock (s : State) : s.preempt.cfgClock = s.cfgClock := by
  rw [State.preempt_eq, State.withTx_cfgClock]
@[simp] theorem State.preempt_loadingTimer (s : State) : s.preempt.loadingTimer = s.loadingTimer := by
  rw [State.preempt_eq, State.withTx_loadingTimer]
@[simp] theorem State.preempt_listeningTimer (s : State) : s.preempt.listeningTimer = s.listeningTimer := by
  rw [State.preempt_eq, State.withTx_listeningTimer]
@[simp] theorem State.preempt_front (s : State) : s.preempt.front = s.front := by
  rw [State.preempt_eq, State.withTx_front]
@[simp] theorem State.preempt_reference (s : State) : s.preempt.reference = s.reference := by
  rw [State.preempt_eq, State.withTx_reference]
@[simp] theorem State.preempt_records (s : State) : s.preempt.records = s.records := by
  rw [State.preempt_eq, State.withTx_records]
@[simp] theorem State.preempt_rx (s : State) : s.preempt.rx = s.rx := by
  rw [State.preempt_eq, State.withTx_rx]
@[simp] theorem State.preempt_mirror (s : State) : s.preempt.mirror = s.mirror := by
  rw [State.preempt_eq, State.withTx_mirror]
@[simp] theorem State.preempt_sections (s : State) : s.preempt.sections = s.sections := by
  rw [State.preempt_eq, State.withTx_sections]
@[simp] theorem State.preempt_lines (s : State) : s.preempt.lines = s.lines := by
  rw [State.preempt_eq, State.withTx_lines]
@[simp] theorem State.preempt_attn0 (s : State) : s.preempt.attn0 = s.attn0 := by
  rw [State.preempt_eq, State.withTx_attn0]
@[simp] theorem State.preempt_attn1 (s : State) : s.preempt.attn1 = s.attn1 := by
  rw [State.preempt_eq, State.withTx_attn1]
@[simp] theorem State.preempt_draws (s : State) : s.preempt.draws = s.draws := by
  rw [State.preempt_eq, State.withTx_draws]

/-! ### `State.pointChangeDue` -/

@[simp] theorem State.pointChangeDue_pending (s : State) (p : PointIndex) :
    (s.pointChangeDue p).pending = s.pending := by
  rw [State.pointChangeDue_eq, State.withTx_pending]
@[simp] theorem State.pointChangeDue_mode (s : State) (p : PointIndex) : (s.pointChangeDue p).mode = s.mode := by
  rw [State.pointChangeDue_eq, State.withTx_mode]
@[simp] theorem State.pointChangeDue_cause (s : State) (p : PointIndex) : (s.pointChangeDue p).cause = s.cause := by
  rw [State.pointChangeDue_eq, State.withTx_cause]
@[simp] theorem State.pointChangeDue_station (s : State) (p : PointIndex) :
    (s.pointChangeDue p).station = s.station := by
  rw [State.pointChangeDue_eq, State.withTx_station]
@[simp] theorem State.pointChangeDue_config (s : State) (p : PointIndex) :
    (s.pointChangeDue p).config = s.config := by
  rw [State.pointChangeDue_eq, State.withTx_config]
@[simp] theorem State.pointChangeDue_cfgSelectLow (s : State) (p : PointIndex) :
    (s.pointChangeDue p).cfgSelectLow = s.cfgSelectLow := by
  rw [State.pointChangeDue_eq, State.withTx_cfgSelectLow]
@[simp] theorem State.pointChangeDue_cfgClock (s : State) (p : PointIndex) :
    (s.pointChangeDue p).cfgClock = s.cfgClock := by
  rw [State.pointChangeDue_eq, State.withTx_cfgClock]
@[simp] theorem State.pointChangeDue_loadingTimer (s : State) (p : PointIndex) :
    (s.pointChangeDue p).loadingTimer = s.loadingTimer := by
  rw [State.pointChangeDue_eq, State.withTx_loadingTimer]
@[simp] theorem State.pointChangeDue_listeningTimer (s : State) (p : PointIndex) :
    (s.pointChangeDue p).listeningTimer = s.listeningTimer := by
  rw [State.pointChangeDue_eq, State.withTx_listeningTimer]
@[simp] theorem State.pointChangeDue_front (s : State) (p : PointIndex) : (s.pointChangeDue p).front = s.front := by
  rw [State.pointChangeDue_eq, State.withTx_front]
@[simp] theorem State.pointChangeDue_reference (s : State) (p : PointIndex) :
    (s.pointChangeDue p).reference = s.reference := by
  rw [State.pointChangeDue_eq, State.withTx_reference]
@[simp] theorem State.pointChangeDue_records (s : State) (p : PointIndex) :
    (s.pointChangeDue p).records = s.records := by
  rw [State.pointChangeDue_eq, State.withTx_records]
@[simp] theorem State.pointChangeDue_rx (s : State) (p : PointIndex) : (s.pointChangeDue p).rx = s.rx := by
  rw [State.pointChangeDue_eq, State.withTx_rx]
@[simp] theorem State.pointChangeDue_mirror (s : State) (p : PointIndex) :
    (s.pointChangeDue p).mirror = s.mirror := by
  rw [State.pointChangeDue_eq, State.withTx_mirror]
@[simp] theorem State.pointChangeDue_sections (s : State) (p : PointIndex) :
    (s.pointChangeDue p).sections = s.sections := by
  rw [State.pointChangeDue_eq, State.withTx_sections]
@[simp] theorem State.pointChangeDue_lines (s : State) (p : PointIndex) : (s.pointChangeDue p).lines = s.lines := by
  rw [State.pointChangeDue_eq, State.withTx_lines]
@[simp] theorem State.pointChangeDue_attn0 (s : State) (p : PointIndex) : (s.pointChangeDue p).attn0 = s.attn0 := by
  rw [State.pointChangeDue_eq, State.withTx_attn0]
@[simp] theorem State.pointChangeDue_attn1 (s : State) (p : PointIndex) : (s.pointChangeDue p).attn1 = s.attn1 := by
  rw [State.pointChangeDue_eq, State.withTx_attn1]
@[simp] theorem State.pointChangeDue_draws (s : State) (p : PointIndex) : (s.pointChangeDue p).draws = s.draws := by
  rw [State.pointChangeDue_eq, State.withTx_draws]

/-! ### `State.sectionChangeDue` -/

@[simp] theorem State.sectionChangeDue_pending (s : State) (n : Slot) :
    (s.sectionChangeDue n).pending = s.pending := by
  rw [State.sectionChangeDue_eq, State.withTx_pending]
@[simp] theorem State.sectionChangeDue_mode (s : State) (n : Slot) : (s.sectionChangeDue n).mode = s.mode := by
  rw [State.sectionChangeDue_eq, State.withTx_mode]
@[simp] theorem State.sectionChangeDue_cause (s : State) (n : Slot) : (s.sectionChangeDue n).cause = s.cause := by
  rw [State.sectionChangeDue_eq, State.withTx_cause]
@[simp] theorem State.sectionChangeDue_station (s : State) (n : Slot) :
    (s.sectionChangeDue n).station = s.station := by
  rw [State.sectionChangeDue_eq, State.withTx_station]
@[simp] theorem State.sectionChangeDue_config (s : State) (n : Slot) : (s.sectionChangeDue n).config = s.config := by
  rw [State.sectionChangeDue_eq, State.withTx_config]
@[simp] theorem State.sectionChangeDue_cfgSelectLow (s : State) (n : Slot) :
    (s.sectionChangeDue n).cfgSelectLow = s.cfgSelectLow := by
  rw [State.sectionChangeDue_eq, State.withTx_cfgSelectLow]
@[simp] theorem State.sectionChangeDue_cfgClock (s : State) (n : Slot) :
    (s.sectionChangeDue n).cfgClock = s.cfgClock := by
  rw [State.sectionChangeDue_eq, State.withTx_cfgClock]
@[simp] theorem State.sectionChangeDue_loadingTimer (s : State) (n : Slot) :
    (s.sectionChangeDue n).loadingTimer = s.loadingTimer := by
  rw [State.sectionChangeDue_eq, State.withTx_loadingTimer]
@[simp] theorem State.sectionChangeDue_listeningTimer (s : State) (n : Slot) :
    (s.sectionChangeDue n).listeningTimer = s.listeningTimer := by
  rw [State.sectionChangeDue_eq, State.withTx_listeningTimer]
@[simp] theorem State.sectionChangeDue_front (s : State) (n : Slot) : (s.sectionChangeDue n).front = s.front := by
  rw [State.sectionChangeDue_eq, State.withTx_front]
@[simp] theorem State.sectionChangeDue_reference (s : State) (n : Slot) :
    (s.sectionChangeDue n).reference = s.reference := by
  rw [State.sectionChangeDue_eq, State.withTx_reference]
@[simp] theorem State.sectionChangeDue_records (s : State) (n : Slot) :
    (s.sectionChangeDue n).records = s.records := by
  rw [State.sectionChangeDue_eq, State.withTx_records]
@[simp] theorem State.sectionChangeDue_rx (s : State) (n : Slot) : (s.sectionChangeDue n).rx = s.rx := by
  rw [State.sectionChangeDue_eq, State.withTx_rx]
@[simp] theorem State.sectionChangeDue_mirror (s : State) (n : Slot) : (s.sectionChangeDue n).mirror = s.mirror := by
  rw [State.sectionChangeDue_eq, State.withTx_mirror]
@[simp] theorem State.sectionChangeDue_sections (s : State) (n : Slot) :
    (s.sectionChangeDue n).sections = s.sections := by
  rw [State.sectionChangeDue_eq, State.withTx_sections]
@[simp] theorem State.sectionChangeDue_lines (s : State) (n : Slot) : (s.sectionChangeDue n).lines = s.lines := by
  rw [State.sectionChangeDue_eq, State.withTx_lines]
@[simp] theorem State.sectionChangeDue_attn0 (s : State) (n : Slot) : (s.sectionChangeDue n).attn0 = s.attn0 := by
  rw [State.sectionChangeDue_eq, State.withTx_attn0]
@[simp] theorem State.sectionChangeDue_attn1 (s : State) (n : Slot) : (s.sectionChangeDue n).attn1 = s.attn1 := by
  rw [State.sectionChangeDue_eq, State.withTx_attn1]
@[simp] theorem State.sectionChangeDue_draws (s : State) (n : Slot) : (s.sectionChangeDue n).draws = s.draws := by
  rw [State.sectionChangeDue_eq, State.withTx_draws]

/-! ### `State.spendStart` -/

@[simp] theorem State.spendStart_pending (s : State) (f : Frame) : (s.spendStart f).pending = s.pending := by
  rw [State.spendStart_eq, State.withTx_pending]
@[simp] theorem State.spendStart_mode (s : State) (f : Frame) : (s.spendStart f).mode = s.mode := by
  rw [State.spendStart_eq, State.withTx_mode]
@[simp] theorem State.spendStart_cause (s : State) (f : Frame) : (s.spendStart f).cause = s.cause := by
  rw [State.spendStart_eq, State.withTx_cause]
@[simp] theorem State.spendStart_station (s : State) (f : Frame) : (s.spendStart f).station = s.station := by
  rw [State.spendStart_eq, State.withTx_station]
@[simp] theorem State.spendStart_config (s : State) (f : Frame) : (s.spendStart f).config = s.config := by
  rw [State.spendStart_eq, State.withTx_config]
@[simp] theorem State.spendStart_cfgSelectLow (s : State) (f : Frame) :
    (s.spendStart f).cfgSelectLow = s.cfgSelectLow := by
  rw [State.spendStart_eq, State.withTx_cfgSelectLow]
@[simp] theorem State.spendStart_cfgClock (s : State) (f : Frame) :
    (s.spendStart f).cfgClock = s.cfgClock := by
  rw [State.spendStart_eq, State.withTx_cfgClock]
@[simp] theorem State.spendStart_loadingTimer (s : State) (f : Frame) :
    (s.spendStart f).loadingTimer = s.loadingTimer := by
  rw [State.spendStart_eq, State.withTx_loadingTimer]
@[simp] theorem State.spendStart_listeningTimer (s : State) (f : Frame) :
    (s.spendStart f).listeningTimer = s.listeningTimer := by
  rw [State.spendStart_eq, State.withTx_listeningTimer]
@[simp] theorem State.spendStart_front (s : State) (f : Frame) : (s.spendStart f).front = s.front := by
  rw [State.spendStart_eq, State.withTx_front]
@[simp] theorem State.spendStart_reference (s : State) (f : Frame) : (s.spendStart f).reference = s.reference := by
  rw [State.spendStart_eq, State.withTx_reference]
@[simp] theorem State.spendStart_records (s : State) (f : Frame) : (s.spendStart f).records = s.records := by
  rw [State.spendStart_eq, State.withTx_records]
@[simp] theorem State.spendStart_rx (s : State) (f : Frame) : (s.spendStart f).rx = s.rx := by
  rw [State.spendStart_eq, State.withTx_rx]
@[simp] theorem State.spendStart_mirror (s : State) (f : Frame) : (s.spendStart f).mirror = s.mirror := by
  rw [State.spendStart_eq, State.withTx_mirror]
@[simp] theorem State.spendStart_sections (s : State) (f : Frame) : (s.spendStart f).sections = s.sections := by
  rw [State.spendStart_eq, State.withTx_sections]
@[simp] theorem State.spendStart_lines (s : State) (f : Frame) : (s.spendStart f).lines = s.lines := by
  rw [State.spendStart_eq, State.withTx_lines]
@[simp] theorem State.spendStart_attn0 (s : State) (f : Frame) : (s.spendStart f).attn0 = s.attn0 := by
  rw [State.spendStart_eq, State.withTx_attn0]
@[simp] theorem State.spendStart_attn1 (s : State) (f : Frame) : (s.spendStart f).attn1 = s.attn1 := by
  rw [State.spendStart_eq, State.withTx_attn1]
@[simp] theorem State.spendStart_draws (s : State) (f : Frame) : (s.spendStart f).draws = s.draws := by
  rw [State.spendStart_eq, State.withTx_draws]

/-! ### `State.refresh` -/

@[simp] theorem State.refresh_pending (s : State) (c : EntryKind → Bool) (k : EntryKind → Nat → Nat) :
    (s.refresh c k).pending = s.pending := by
  rw [State.refresh_eq, State.withTx_pending]
@[simp] theorem State.refresh_mode (s : State) (c : EntryKind → Bool) (k : EntryKind → Nat → Nat) :
    (s.refresh c k).mode = s.mode := by
  rw [State.refresh_eq, State.withTx_mode]
@[simp] theorem State.refresh_cause (s : State) (c : EntryKind → Bool) (k : EntryKind → Nat → Nat) :
    (s.refresh c k).cause = s.cause := by
  rw [State.refresh_eq, State.withTx_cause]
@[simp] theorem State.refresh_station (s : State) (c : EntryKind → Bool) (k : EntryKind → Nat → Nat) :
    (s.refresh c k).station = s.station := by
  rw [State.refresh_eq, State.withTx_station]
@[simp] theorem State.refresh_config (s : State) (c : EntryKind → Bool) (k : EntryKind → Nat → Nat) :
    (s.refresh c k).config = s.config := by
  rw [State.refresh_eq, State.withTx_config]
@[simp] theorem State.refresh_cfgSelectLow (s : State) (c : EntryKind → Bool) (k : EntryKind → Nat → Nat) :
    (s.refresh c k).cfgSelectLow = s.cfgSelectLow := by
  rw [State.refresh_eq, State.withTx_cfgSelectLow]
@[simp] theorem State.refresh_cfgClock (s : State) (c : EntryKind → Bool) (k : EntryKind → Nat → Nat) :
    (s.refresh c k).cfgClock = s.cfgClock := by
  rw [State.refresh_eq, State.withTx_cfgClock]
@[simp] theorem State.refresh_loadingTimer (s : State) (c : EntryKind → Bool) (k : EntryKind → Nat → Nat) :
    (s.refresh c k).loadingTimer = s.loadingTimer := by
  rw [State.refresh_eq, State.withTx_loadingTimer]
@[simp] theorem State.refresh_listeningTimer (s : State) (c : EntryKind → Bool) (k : EntryKind → Nat → Nat) :
    (s.refresh c k).listeningTimer = s.listeningTimer := by
  rw [State.refresh_eq, State.withTx_listeningTimer]
@[simp] theorem State.refresh_front (s : State) (c : EntryKind → Bool) (k : EntryKind → Nat → Nat) :
    (s.refresh c k).front = s.front := by
  rw [State.refresh_eq, State.withTx_front]
@[simp] theorem State.refresh_reference (s : State) (c : EntryKind → Bool) (k : EntryKind → Nat → Nat) :
    (s.refresh c k).reference = s.reference := by
  rw [State.refresh_eq, State.withTx_reference]
@[simp] theorem State.refresh_records (s : State) (c : EntryKind → Bool) (k : EntryKind → Nat → Nat) :
    (s.refresh c k).records = s.records := by
  rw [State.refresh_eq, State.withTx_records]
@[simp] theorem State.refresh_rx (s : State) (c : EntryKind → Bool) (k : EntryKind → Nat → Nat) :
    (s.refresh c k).rx = s.rx := by
  rw [State.refresh_eq, State.withTx_rx]
@[simp] theorem State.refresh_mirror (s : State) (c : EntryKind → Bool) (k : EntryKind → Nat → Nat) :
    (s.refresh c k).mirror = s.mirror := by
  rw [State.refresh_eq, State.withTx_mirror]
@[simp] theorem State.refresh_sections (s : State) (c : EntryKind → Bool) (k : EntryKind → Nat → Nat) :
    (s.refresh c k).sections = s.sections := by
  rw [State.refresh_eq, State.withTx_sections]
@[simp] theorem State.refresh_lines (s : State) (c : EntryKind → Bool) (k : EntryKind → Nat → Nat) :
    (s.refresh c k).lines = s.lines := by
  rw [State.refresh_eq, State.withTx_lines]
@[simp] theorem State.refresh_attn0 (s : State) (c : EntryKind → Bool) (k : EntryKind → Nat → Nat) :
    (s.refresh c k).attn0 = s.attn0 := by
  rw [State.refresh_eq, State.withTx_attn0]
@[simp] theorem State.refresh_attn1 (s : State) (c : EntryKind → Bool) (k : EntryKind → Nat → Nat) :
    (s.refresh c k).attn1 = s.attn1 := by
  rw [State.refresh_eq, State.withTx_attn1]
@[simp] theorem State.refresh_draws (s : State) (c : EntryKind → Bool) (k : EntryKind → Nat → Nat) :
    (s.refresh c k).draws = s.draws := by
  rw [State.refresh_eq, State.withTx_draws]

/-! ### What the transmitter keeps -/

/-- Loading leaves the live layer, the transmitter's state, its counters and the numbering alone (R68). -/
theorem State.loadNext_keeps (s : State) :
    s.loadNext.tx.live = s.tx.live ∧ s.loadNext.tx.state = s.tx.state ∧ s.loadNext.tx.failures = s.tx.failures ∧
      s.loadNext.tx.startCounters = s.tx.startCounters ∧ s.loadNext.tx.nextPlace = s.tx.nextPlace := by
  unfold State.loadNext
  split
  · simp
  · rename_i e _
    obtain ⟨kind, cls, place⟩ := e
    cases kind <;> simp [Transmitter.restartTimer]

/-- Taking an entry back changes the pending list alone (R67). -/
theorem Transmitter.takeBack_keeps (t : Transmitter) (e : Entry) :
    t.takeBack e = { t with entries := (t.takeBack e).entries } := by
  unfold Transmitter.takeBack
  split <;> rfl

/-- Preemption leaves the live layer, the transmitter's state, its counters and the numbering alone (R71). -/
theorem State.preempt_keeps (s : State) :
    s.preempt.tx.live = s.tx.live ∧ s.preempt.tx.state = s.tx.state ∧ s.preempt.tx.failures = s.tx.failures ∧
      s.preempt.tx.startCounters = s.tx.startCounters ∧ s.preempt.tx.nextPlace = s.tx.nextPlace := by
  unfold State.preempt
  split
  · simp
  · split
    · rename_i lf _ _
      have h := State.loadNext_keeps
        (s.withTx (if s.roundOpen lf.entry.kind then { s.tx with next := none }.takeBack lf.entry
          else { s.tx with next := none }))
      refine ⟨?_, ?_, ?_, ?_, ?_⟩
      · rw [h.1]; split <;> [rw [Transmitter.takeBack_keeps]; skip] <;> rfl
      · rw [h.2.1]; split <;> [rw [Transmitter.takeBack_keeps]; skip] <;> rfl
      · rw [h.2.2.1]; split <;> [rw [Transmitter.takeBack_keeps]; skip] <;> rfl
      · rw [h.2.2.2.1]; split <;> [rw [Transmitter.takeBack_keeps]; skip] <;> rfl
      · rw [h.2.2.2.2]; split <;> [rw [Transmitter.takeBack_keeps]; skip] <;> rfl
    · simp

end Sys2Proof.Machine
end

