-- ==== Sys2Proof/Laws/Sections.lean ====
section
/-! SUPPORT. What an evaluation of a section can change: the section table, the transmitter and the CLEAR lines; and
what it makes of each. -/

namespace Sys2Proof.Machine

/-- The parts of the state that the section engine writes, taken from another state. -/
def State.withSectionParts (s t : State) : State := { s with tx := t.tx, sections := t.sections, lines := t.lines }

@[simp] theorem State.withSectionParts_pending (s t : State) : (s.withSectionParts t).pending = s.pending := rfl
@[simp] theorem State.withSectionParts_mode (s t : State) : (s.withSectionParts t).mode = s.mode := rfl
@[simp] theorem State.withSectionParts_cause (s t : State) : (s.withSectionParts t).cause = s.cause := rfl
@[simp] theorem State.withSectionParts_station (s t : State) : (s.withSectionParts t).station = s.station := rfl
@[simp] theorem State.withSectionParts_config (s t : State) : (s.withSectionParts t).config = s.config := rfl
@[simp] theorem State.withSectionParts_cfgSelectLow (s t : State) : (s.withSectionParts t).cfgSelectLow = s.cfgSelectLow := rfl
@[simp] theorem State.withSectionParts_cfgClock (s t : State) : (s.withSectionParts t).cfgClock = s.cfgClock := rfl
@[simp] theorem State.withSectionParts_loadingTimer (s t : State) : (s.withSectionParts t).loadingTimer = s.loadingTimer := rfl
@[simp] theorem State.withSectionParts_listeningTimer (s t : State) : (s.withSectionParts t).listeningTimer = s.listeningTimer := rfl
@[simp] theorem State.withSectionParts_front (s t : State) : (s.withSectionParts t).front = s.front := rfl
@[simp] theorem State.withSectionParts_reference (s t : State) : (s.withSectionParts t).reference = s.reference := rfl
@[simp] theorem State.withSectionParts_records (s t : State) : (s.withSectionParts t).records = s.records := rfl
@[simp] theorem State.withSectionParts_rx (s t : State) : (s.withSectionParts t).rx = s.rx := rfl
@[simp] theorem State.withSectionParts_mirror (s t : State) : (s.withSectionParts t).mirror = s.mirror := rfl
@[simp] theorem State.withSectionParts_attn0 (s t : State) : (s.withSectionParts t).attn0 = s.attn0 := rfl
@[simp] theorem State.withSectionParts_attn1 (s t : State) : (s.withSectionParts t).attn1 = s.attn1 := rfl
@[simp] theorem State.withSectionParts_draws (s t : State) : (s.withSectionParts t).draws = s.draws := rfl

/-- Handing a section change on changes the transmitter and the line of the slot. -/
theorem State.handOn_eq (s : State) (n : Slot) (st : SectionState) :
    s.handOn n st = s.withSectionParts (s.handOn n st) := by
  unfold State.handOn
  rw [State.sectionChangeDue_eq]
  rfl

/-- Following a round changes the transmitter alone. -/
theorem State.followRound_eq (s : State) (n : Slot) (b a : Section) :
    s.followRound n b a = s.withTx (s.followRound n b a).tx := rfl

/-- An evaluation changes the section table, the transmitter and the lines. -/
theorem State.applySection_eq (s : State) (n : Slot) (f : Section → Section) :
    s.applySection n f = s.withSectionParts (s.applySection n f) := by
  unfold State.applySection
  split
  · rfl
  · dsimp only
    split
    · rw [State.handOn_eq]
      rfl
    · rfl

/-- See `State.applySection_eq`. -/
theorem State.reachSection_eq (s : State) (n : Slot) (c : Option DisturbanceCause) (src : TermSource) :
    s.reachSection n c src = s.withSectionParts (s.reachSection n c src) := by
  unfold State.reachSection
  rw [State.applySection_eq]
  rfl

/-- Folding an operation that writes only the section parts writes only those. -/
theorem foldl_sectionParts {α : Type} (f : State → α → State)
    (h : ∀ s a, f s a = s.withSectionParts (f s a)) (l : List α) (s : State) :
    l.foldl f s = s.withSectionParts (l.foldl f s) := by
  induction l generalizing s with
  | nil => rfl
  | cons a l ih =>
    simp only [List.foldl_cons]
    rw [ih, h]
    rfl

/-- A mirror notification changes the section table, the transmitter and the lines. -/
theorem State.notifySections_eq (s : State) (c : Option DisturbanceCause) (m : EntryIndex) :
    s.notifySections c m = s.withSectionParts (s.notifySections c m) :=
  foldl_sectionParts _ (fun s n => s.reachSection_eq n c (.mirror m)) allSlots s

/-- A section at the entry to HALTED changes the section table, the transmitter and the lines. -/
theorem State.haltSection_eq (s : State) (n : Slot) : s.haltSection n = s.withSectionParts (s.haltSection n) := by
  unfold State.haltSection
  split
  · rfl
  · dsimp only
    split
    · rw [State.handOn_eq]
      rfl
    · rfl

/-! ### `State.handOn` -/

@[simp] theorem State.handOn_pending (s : State) (n : Slot) (st : SectionState) :
    (s.handOn n st).pending = s.pending := by
  rw [State.handOn_eq, State.withSectionParts_pending]
@[simp] theorem State.handOn_mode (s : State) (n : Slot) (st : SectionState) : (s.handOn n st).mode = s.mode := by
  rw [State.handOn_eq, State.withSectionParts_mode]
@[simp] theorem State.handOn_cause (s : State) (n : Slot) (st : SectionState) : (s.handOn n st).cause = s.cause := by
  rw [State.handOn_eq, State.withSectionParts_cause]
@[simp] theorem State.handOn_station (s : State) (n : Slot) (st : SectionState) :
    (s.handOn n st).station = s.station := by
  rw [State.handOn_eq, State.withSectionParts_station]
@[simp] theorem State.handOn_config (s : State) (n : Slot) (st : SectionState) :
    (s.handOn n st).config = s.config := by
  rw [State.handOn_eq, State.withSectionParts_config]
@[simp] theorem State.handOn_cfgSelectLow (s : State) (n : Slot) (st : SectionState) :
    (s.handOn n st).cfgSelectLow = s.cfgSelectLow := by
  rw [State.handOn_eq, State.withSectionParts_cfgSelectLow]
@[simp] theorem State.handOn_cfgClock (s : State) (n : Slot) (st : SectionState) :
    (s.handOn n st).cfgClock = s.cfgClock := by
  rw [State.handOn_eq, State.withSectionParts_cfgClock]
@[simp] theorem State.handOn_loadingTimer (s : State) (n : Slot) (st : SectionState) :
    (s.handOn n st).loadingTimer = s.loadingTimer := by
  rw [State.handOn_eq, State.withSectionParts_loadingTimer]
@[simp] theorem State.handOn_listeningTimer (s : State) (n : Slot) (st : SectionState) :
    (s.handOn n st).listeningTimer = s.listeningTimer := by
  rw [State.handOn_eq, State.withSectionParts_listeningTimer]
@[simp] theorem State.handOn_front (s : State) (n : Slot) (st : SectionState) : (s.handOn n st).front = s.front := by
  rw [State.handOn_eq, State.withSectionParts_front]
@[simp] theorem State.handOn_reference (s : State) (n : Slot) (st : SectionState) :
    (s.handOn n st).reference = s.reference := by
  rw [State.handOn_eq, State.withSectionParts_reference]
@[simp] theorem State.handOn_records (s : State) (n : Slot) (st : SectionState) :
    (s.handOn n st).records = s.records := by
  rw [State.handOn_eq, State.withSectionParts_records]
@[simp] theorem State.handOn_rx (s : State) (n : Slot) (st : SectionState) : (s.handOn n st).rx = s.rx := by
  rw [State.handOn_eq, State.withSectionParts_rx]
@[simp] theorem State.handOn_mirror (s : State) (n : Slot) (st : SectionState) :
    (s.handOn n st).mirror = s.mirror := by
  rw [State.handOn_eq, State.withSectionParts_mirror]
@[simp] theorem State.handOn_attn0 (s : State) (n : Slot) (st : SectionState) : (s.handOn n st).attn0 = s.attn0 := by
  rw [State.handOn_eq, State.withSectionParts_attn0]
@[simp] theorem State.handOn_attn1 (s : State) (n : Slot) (st : SectionState) : (s.handOn n st).attn1 = s.attn1 := by
  rw [State.handOn_eq, State.withSectionParts_attn1]
@[simp] theorem State.handOn_draws (s : State) (n : Slot) (st : SectionState) : (s.handOn n st).draws = s.draws := by
  rw [State.handOn_eq, State.withSectionParts_draws]
@[simp] theorem State.handOn_sections (s : State) (n : Slot) (st : SectionState) :
    (s.handOn n st).sections = s.sections := by
  unfold State.handOn
  simp

/-! ### `State.followRound` -/

@[simp] theorem State.followRound_pending (s : State) (n : Slot) (b a : Section) :
    (s.followRound n b a).pending = s.pending := rfl
@[simp] theorem State.followRound_mode (s : State) (n : Slot) (b a : Section) :
    (s.followRound n b a).mode = s.mode := rfl
@[simp] theorem State.followRound_cause (s : State) (n : Slot) (b a : Section) :
    (s.followRound n b a).cause = s.cause := rfl
@[simp] theorem State.followRound_station (s : State) (n : Slot) (b a : Section) :
    (s.followRound n b a).station = s.station := rfl
@[simp] theorem State.followRound_config (s : State) (n : Slot) (b a : Section) :
    (s.followRound n b a).config = s.config := rfl
@[simp] theorem State.followRound_cfgSelectLow (s : State) (n : Slot) (b a : Section) :
    (s.followRound n b a).cfgSelectLow = s.cfgSelectLow := rfl
@[simp] theorem State.followRound_cfgClock (s : State) (n : Slot) (b a : Section) :
    (s.followRound n b a).cfgClock = s.cfgClock := rfl
@[simp] theorem State.followRound_loadingTimer (s : State) (n : Slot) (b a : Section) :
    (s.followRound n b a).loadingTimer = s.loadingTimer := rfl
@[simp] theorem State.followRound_listeningTimer (s : State) (n : Slot) (b a : Section) :
    (s.followRound n b a).listeningTimer = s.listeningTimer := rfl
@[simp] theorem State.followRound_front (s : State) (n : Slot) (b a : Section) :
    (s.followRound n b a).front = s.front := rfl
@[simp] theorem State.followRound_reference (s : State) (n : Slot) (b a : Section) :
    (s.followRound n b a).reference = s.reference := rfl
@[simp] theorem State.followRound_records (s : State) (n : Slot) (b a : Section) :
    (s.followRound n b a).records = s.records := rfl
@[simp] theorem State.followRound_rx (s : State) (n : Slot) (b a : Section) : (s.followRound n b a).rx = s.rx := rfl
@[simp] theorem State.followRound_mirror (s : State) (n : Slot) (b a : Section) :
    (s.followRound n b a).mirror = s.mirror := rfl
@[simp] theorem State.followRound_sections (s : State) (n : Slot) (b a : Section) :
    (s.followRound n b a).sections = s.sections := rfl
@[simp] theorem State.followRound_lines (s : State) (n : Slot) (b a : Section) :
    (s.followRound n b a).lines = s.lines := rfl
@[simp] theorem State.followRound_attn0 (s : State) (n : Slot) (b a : Section) :
    (s.followRound n b a).attn0 = s.attn0 := rfl
@[simp] theorem State.followRound_attn1 (s : State) (n : Slot) (b a : Section) :
    (s.followRound n b a).attn1 = s.attn1 := rfl
@[simp] theorem State.followRound_draws (s : State) (n : Slot) (b a : Section) :
    (s.followRound n b a).draws = s.draws := rfl

/-! ### `State.applySection` -/

@[simp] theorem State.applySection_pending (s : State) (n : Slot) (f : Section → Section) :
    (s.applySection n f).pending = s.pending := by
  rw [State.applySection_eq, State.withSectionParts_pending]
@[simp] theorem State.applySection_mode (s : State) (n : Slot) (f : Section → Section) :
    (s.applySection n f).mode = s.mode := by
  rw [State.applySection_eq, State.withSectionParts_mode]
@[simp] theorem State.applySection_cause (s : State) (n : Slot) (f : Section → Section) :
    (s.applySection n f).cause = s.cause := by
  rw [State.applySection_eq, State.withSectionParts_cause]
@[simp] theorem State.applySection_station (s : State) (n : Slot) (f : Section → Section) :
    (s.applySection n f).station = s.station := by
  rw [State.applySection_eq, State.withSectionParts_station]
@[simp] theorem State.applySection_config (s : State) (n : Slot) (f : Section → Section) :
    (s.applySection n f).config = s.config := by
  rw [State.applySection_eq, State.withSectionParts_config]
@[simp] theorem State.applySection_cfgSelectLow (s : State) (n : Slot) (f : Section → Section) :
    (s.applySection n f).cfgSelectLow = s.cfgSelectLow := by
  rw [State.applySection_eq, State.withSectionParts_cfgSelectLow]
@[simp] theorem State.applySection_cfgClock (s : State) (n : Slot) (f : Section → Section) :
    (s.applySection n f).cfgClock = s.cfgClock := by
  rw [State.applySection_eq, State.withSectionParts_cfgClock]
@[simp] theorem State.applySection_loadingTimer (s : State) (n : Slot) (f : Section → Section) :
    (s.applySection n f).loadingTimer = s.loadingTimer := by
  rw [State.applySection_eq, State.withSectionParts_loadingTimer]
@[simp] theorem State.applySection_listeningTimer (s : State) (n : Slot) (f : Section → Section) :
    (s.applySection n f).listeningTimer = s.listeningTimer := by
  rw [State.applySection_eq, State.withSectionParts_listeningTimer]
@[simp] theorem State.applySection_front (s : State) (n : Slot) (f : Section → Section) :
    (s.applySection n f).front = s.front := by
  rw [State.applySection_eq, State.withSectionParts_front]
@[simp] theorem State.applySection_reference (s : State) (n : Slot) (f : Section → Section) :
    (s.applySection n f).reference = s.reference := by
  rw [State.applySection_eq, State.withSectionParts_reference]
@[simp] theorem State.applySection_records (s : State) (n : Slot) (f : Section → Section) :
    (s.applySection n f).records = s.records := by
  rw [State.applySection_eq, State.withSectionParts_records]
@[simp] theorem State.applySection_rx (s : State) (n : Slot) (f : Section → Section) :
    (s.applySection n f).rx = s.rx := by
  rw [State.applySection_eq, State.withSectionParts_rx]
@[simp] theorem State.applySection_mirror (s : State) (n : Slot) (f : Section → Section) :
    (s.applySection n f).mirror = s.mirror := by
  rw [State.applySection_eq, State.withSectionParts_mirror]
@[simp] theorem State.applySection_attn0 (s : State) (n : Slot) (f : Section → Section) :
    (s.applySection n f).attn0 = s.attn0 := by
  rw [State.applySection_eq, State.withSectionParts_attn0]
@[simp] theorem State.applySection_attn1 (s : State) (n : Slot) (f : Section → Section) :
    (s.applySection n f).attn1 = s.attn1 := by
  rw [State.applySection_eq, State.withSectionParts_attn1]
@[simp] theorem State.applySection_draws (s : State) (n : Slot) (f : Section → Section) :
    (s.applySection n f).draws = s.draws := by
  rw [State.applySection_eq, State.withSectionParts_draws]

/-! ### `State.reachSection` -/

@[simp] theorem State.reachSection_pending (s : State) (n : Slot) (c : Option DisturbanceCause) (src : TermSource) :
    (s.reachSection n c src).pending = s.pending := by
  rw [State.reachSection_eq, State.withSectionParts_pending]
@[simp] theorem State.reachSection_mode (s : State) (n : Slot) (c : Option DisturbanceCause) (src : TermSource) :
    (s.reachSection n c src).mode = s.mode := by
  rw [State.reachSection_eq, State.withSectionParts_mode]
@[simp] theorem State.reachSection_cause (s : State) (n : Slot) (c : Option DisturbanceCause) (src : TermSource) :
    (s.reachSection n c src).cause = s.cause := by
  rw [State.reachSection_eq, State.withSectionParts_cause]
@[simp] theorem State.reachSection_station (s : State) (n : Slot) (c : Option DisturbanceCause) (src : TermSource) :
    (s.reachSection n c src).station = s.station := by
  rw [State.reachSection_eq, State.withSectionParts_station]
@[simp] theorem State.reachSection_config (s : State) (n : Slot) (c : Option DisturbanceCause) (src : TermSource) :
    (s.reachSection n c src).config = s.config := by
  rw [State.reachSection_eq, State.withSectionParts_config]
@[simp] theorem State.reachSection_cfgSelectLow (s : State) (n : Slot) (c : Option DisturbanceCause) (src : TermSource) :
    (s.reachSection n c src).cfgSelectLow = s.cfgSelectLow := by
  rw [State.reachSection_eq, State.withSectionParts_cfgSelectLow]
@[simp] theorem State.reachSection_cfgClock (s : State) (n : Slot) (c : Option DisturbanceCause) (src : TermSource) :
    (s.reachSection n c src).cfgClock = s.cfgClock := by
  rw [State.reachSection_eq, State.withSectionParts_cfgClock]
@[simp] theorem State.reachSection_loadingTimer (s : State) (n : Slot) (c : Option DisturbanceCause) (src : TermSource) :
    (s.reachSection n c src).loadingTimer = s.loadingTimer := by
  rw [State.reachSection_eq, State.withSectionParts_loadingTimer]
@[simp] theorem State.reachSection_listeningTimer (s : State) (n : Slot) (c : Option DisturbanceCause) (src : TermSource) :
    (s.reachSection n c src).listeningTimer = s.listeningTimer := by
  rw [State.reachSection_eq, State.withSectionParts_listeningTimer]
@[simp] theorem State.reachSection_front (s : State) (n : Slot) (c : Option DisturbanceCause) (src : TermSource) :
    (s.reachSection n c src).front = s.front := by
  rw [State.reachSection_eq, State.withSectionParts_front]
@[simp] theorem State.reachSection_reference (s : State) (n : Slot) (c : Option DisturbanceCause) (src : TermSource) :
    (s.reachSection n c src).reference = s.reference := by
  rw [State.reachSection_eq, State.withSectionParts_reference]
@[simp] theorem State.reachSection_records (s : State) (n : Slot) (c : Option DisturbanceCause) (src : TermSource) :
    (s.reachSection n c src).records = s.records := by
  rw [State.reachSection_eq, State.withSectionParts_records]
@[simp] theorem State.reachSection_rx (s : State) (n : Slot) (c : Option DisturbanceCause) (src : TermSource) :
    (s.reachSection n c src).rx = s.rx := by
  rw [State.reachSection_eq, State.withSectionParts_rx]
@[simp] theorem State.reachSection_mirror (s : State) (n : Slot) (c : Option DisturbanceCause) (src : TermSource) :
    (s.reachSection n c src).mirror = s.mirror := by
  rw [State.reachSection_eq, State.withSectionParts_mirror]
@[simp] theorem State.reachSection_attn0 (s : State) (n : Slot) (c : Option DisturbanceCause) (src : TermSource) :
    (s.reachSection n c src).attn0 = s.attn0 := by
  rw [State.reachSection_eq, State.withSectionParts_attn0]
@[simp] theorem State.reachSection_attn1 (s : State) (n : Slot) (c : Option DisturbanceCause) (src : TermSource) :
    (s.reachSection n c src).attn1 = s.attn1 := by
  rw [State.reachSection_eq, State.withSectionParts_attn1]
@[simp] theorem State.reachSection_draws (s : State) (n : Slot) (c : Option DisturbanceCause) (src : TermSource) :
    (s.reachSection n c src).draws = s.draws := by
  rw [State.reachSection_eq, State.withSectionParts_draws]

/-! ### `State.notifySections` -/

@[simp] theorem State.notifySections_pending (s : State) (c : Option DisturbanceCause) (m : EntryIndex) :
    (s.notifySections c m).pending = s.pending := by
  rw [State.notifySections_eq, State.withSectionParts_pending]
@[simp] theorem State.notifySections_mode (s : State) (c : Option DisturbanceCause) (m : EntryIndex) :
    (s.notifySections c m).mode = s.mode := by
  rw [State.notifySections_eq, State.withSectionParts_mode]
@[simp] theorem State.notifySections_cause (s : State) (c : Option DisturbanceCause) (m : EntryIndex) :
    (s.notifySections c m).cause = s.cause := by
  rw [State.notifySections_eq, State.withSectionParts_cause]
@[simp] theorem State.notifySections_station (s : State) (c : Option DisturbanceCause) (m : EntryIndex) :
    (s.notifySections c m).station = s.station := by
  rw [State.notifySections_eq, State.withSectionParts_station]
@[simp] theorem State.notifySections_config (s : State) (c : Option DisturbanceCause) (m : EntryIndex) :
    (s.notifySections c m).config = s.config := by
  rw [State.notifySections_eq, State.withSectionParts_config]
@[simp] theorem State.notifySections_cfgSelectLow (s : State) (c : Option DisturbanceCause) (m : EntryIndex) :
    (s.notifySections c m).cfgSelectLow = s.cfgSelectLow := by
  rw [State.notifySections_eq, State.withSectionParts_cfgSelectLow]
@[simp] theorem State.notifySections_cfgClock (s : State) (c : Option DisturbanceCause) (m : EntryIndex) :
    (s.notifySections c m).cfgClock = s.cfgClock := by
  rw [State.notifySections_eq, State.withSectionParts_cfgClock]
@[simp] theorem State.notifySections_loadingTimer (s : State) (c : Option DisturbanceCause) (m : EntryIndex) :
    (s.notifySections c m).loadingTimer = s.loadingTimer := by
  rw [State.notifySections_eq, State.withSectionParts_loadingTimer]
@[simp] theorem State.notifySections_listeningTimer (s : State) (c : Option DisturbanceCause) (m : EntryIndex) :
    (s.notifySections c m).listeningTimer = s.listeningTimer := by
  rw [State.notifySections_eq, State.withSectionParts_listeningTimer]
@[simp] theorem State.notifySections_front (s : State) (c : Option DisturbanceCause) (m : EntryIndex) :
    (s.notifySections c m).front = s.front := by
  rw [State.notifySections_eq, State.withSectionParts_front]
@[simp] theorem State.notifySections_reference (s : State) (c : Option DisturbanceCause) (m : EntryIndex) :
    (s.notifySections c m).reference = s.reference := by
  rw [State.notifySections_eq, State.withSectionParts_reference]
@[simp] theorem State.notifySections_records (s : State) (c : Option DisturbanceCause) (m : EntryIndex) :
    (s.notifySections c m).records = s.records := by
  rw [State.notifySections_eq, State.withSectionParts_records]
@[simp] theorem State.notifySections_rx (s : State) (c : Option DisturbanceCause) (m : EntryIndex) :
    (s.notifySections c m).rx = s.rx := by
  rw [State.notifySections_eq, State.withSectionParts_rx]
@[simp] theorem State.notifySections_mirror (s : State) (c : Option DisturbanceCause) (m : EntryIndex) :
    (s.notifySections c m).mirror = s.mirror := by
  rw [State.notifySections_eq, State.withSectionParts_mirror]
@[simp] theorem State.notifySections_attn0 (s : State) (c : Option DisturbanceCause) (m : EntryIndex) :
    (s.notifySections c m).attn0 = s.attn0 := by
  rw [State.notifySections_eq, State.withSectionParts_attn0]
@[simp] theorem State.notifySections_attn1 (s : State) (c : Option DisturbanceCause) (m : EntryIndex) :
    (s.notifySections c m).attn1 = s.attn1 := by
  rw [State.notifySections_eq, State.withSectionParts_attn1]
@[simp] theorem State.notifySections_draws (s : State) (c : Option DisturbanceCause) (m : EntryIndex) :
    (s.notifySections c m).draws = s.draws := by
  rw [State.notifySections_eq, State.withSectionParts_draws]

/-! ### `State.haltSection` -/

@[simp] theorem State.haltSection_pending (s : State) (n : Slot) : (s.haltSection n).pending = s.pending := by
  rw [State.haltSection_eq, State.withSectionParts_pending]
@[simp] theorem State.haltSection_mode (s : State) (n : Slot) : (s.haltSection n).mode = s.mode := by
  rw [State.haltSection_eq, State.withSectionParts_mode]
@[simp] theorem State.haltSection_cause (s : State) (n : Slot) : (s.haltSection n).cause = s.cause := by
  rw [State.haltSection_eq, State.withSectionParts_cause]
@[simp] theorem State.haltSection_station (s : State) (n : Slot) : (s.haltSection n).station = s.station := by
  rw [State.haltSection_eq, State.withSectionParts_station]
@[simp] theorem State.haltSection_config (s : State) (n : Slot) : (s.haltSection n).config = s.config := by
  rw [State.haltSection_eq, State.withSectionParts_config]
@[simp] theorem State.haltSection_cfgSelectLow (s : State) (n : Slot) :
    (s.haltSection n).cfgSelectLow = s.cfgSelectLow := by
  rw [State.haltSection_eq, State.withSectionParts_cfgSelectLow]
@[simp] theorem State.haltSection_cfgClock (s : State) (n : Slot) :
    (s.haltSection n).cfgClock = s.cfgClock := by
  rw [State.haltSection_eq, State.withSectionParts_cfgClock]
@[simp] theorem State.haltSection_loadingTimer (s : State) (n : Slot) :
    (s.haltSection n).loadingTimer = s.loadingTimer := by
  rw [State.haltSection_eq, State.withSectionParts_loadingTimer]
@[simp] theorem State.haltSection_listeningTimer (s : State) (n : Slot) :
    (s.haltSection n).listeningTimer = s.listeningTimer := by
  rw [State.haltSection_eq, State.withSectionParts_listeningTimer]
@[simp] theorem State.haltSection_front (s : State) (n : Slot) : (s.haltSection n).front = s.front := by
  rw [State.haltSection_eq, State.withSectionParts_front]
@[simp] theorem State.haltSection_reference (s : State) (n : Slot) : (s.haltSection n).reference = s.reference := by
  rw [State.haltSection_eq, State.withSectionParts_reference]
@[simp] theorem State.haltSection_records (s : State) (n : Slot) : (s.haltSection n).records = s.records := by
  rw [State.haltSection_eq, State.withSectionParts_records]
@[simp] theorem State.haltSection_rx (s : State) (n : Slot) : (s.haltSection n).rx = s.rx := by
  rw [State.haltSection_eq, State.withSectionParts_rx]
@[simp] theorem State.haltSection_mirror (s : State) (n : Slot) : (s.haltSection n).mirror = s.mirror := by
  rw [State.haltSection_eq, State.withSectionParts_mirror]
@[simp] theorem State.haltSection_attn0 (s : State) (n : Slot) : (s.haltSection n).attn0 = s.attn0 := by
  rw [State.haltSection_eq, State.withSectionParts_attn0]
@[simp] theorem State.haltSection_attn1 (s : State) (n : Slot) : (s.haltSection n).attn1 = s.attn1 := by
  rw [State.haltSection_eq, State.withSectionParts_attn1]
@[simp] theorem State.haltSection_draws (s : State) (n : Slot) : (s.haltSection n).draws = s.draws := by
  rw [State.haltSection_eq, State.withSectionParts_draws]

/-! ### What an evaluation makes of the slot, the line and the round -/

/-- The section table after an evaluation. -/
theorem State.applySection_sections (s : State) (n : Slot) (f : Section → Section) :
    (s.applySection n f).sections =
      match s.sections.get n with
      | none => s.sections
      | some sec => s.sections.set n (some (f sec)) := by
  unfold State.applySection
  cases s.sections.get n with
  | none => rfl
  | some sec =>
    dsimp only
    split <;> simp

/-- The evaluated slot. -/
theorem State.applySection_get_same (s : State) (n : Slot) (f : Section → Section) :
    (s.applySection n f).sections.get n = (s.sections.get n).map f := by
  rw [State.applySection_sections]
  split <;> simp_all

/-- Any other slot keeps its section (R108). -/
theorem State.applySection_get_other (s : State) {n m : Slot} (f : Section → Section) (h : m ≠ n) :
    (s.applySection n f).sections.get m = s.sections.get m := by
  rw [State.applySection_sections]
  split
  · rfl
  · exact Table.get_set_other _ _ h

/-- The lines after an evaluation: the slot's line follows a section change (R128, R166, R167). -/
theorem State.applySection_lines (s : State) (n : Slot) (f : Section → Section) :
    (s.applySection n f).lines =
      match s.sections.get n with
      | none => s.lines
      | some sec =>
        if sectionChanged sec (f sec) then
          s.lines.set n (if s.mode = .running then (s.lines.get n).drive (f sec).state else .low)
        else s.lines := by
  unfold State.applySection
  cases s.sections.get n with
  | none => rfl
  | some sec =>
    dsimp only
    split
    · by_cases hm : s.mode = .running <;> simp [State.handOn, hm]
    · simp

/-- The line of any other slot is left alone. -/
theorem State.applySection_line_other (s : State) {n m : Slot} (f : Section → Section) (h : m ≠ n) :
    (s.applySection n f).lines.get m = s.lines.get m := by
  rw [State.applySection_lines]
  split
  · rfl
  · split
    · exact Table.get_set_other _ _ h
    · rfl

end Sys2Proof.Machine
end

