-- ==== Sys2Proof/Laws/Halt.lean ====
section
/-! SUPPORT. What the entry to HALTED makes of every block (R182). -/

namespace Sys2Proof.Machine

/-! ### The transmitter at the entry to HALTED (R79, R136) -/

@[simp] theorem Transmitter.halt_next (t : Transmitter) : t.halt.next = none := rfl
@[simp] theorem Transmitter.halt_keptNext (t : Transmitter) : t.halt.keptNext = heldAnswer t.next := rfl
@[simp] theorem Transmitter.halt_entries (t : Transmitter) : t.halt.entries = t.entries := rfl
@[simp] theorem Transmitter.halt_failures (t : Transmitter) : t.halt.failures = t.failures := rfl
@[simp] theorem Transmitter.halt_startCounters (t : Transmitter) : t.halt.startCounters = t.startCounters := rfl

/-- A layer keeps nothing but an answer (R136). -/
theorem heldAnswer_eq_some {layer : Option LayerFrame} {lf : LayerFrame} :
    heldAnswer layer = some lf ↔ layer = some lf ∧ lf.entry.kind.isAnswer = true := by
  simp [heldAnswer, Option.filter_eq_some_iff]

/-- The live layer at the entry to HALTED: a frame that is SENDING goes on, an answer that is not stays unsent, and no
other frame is left (R79, R136). -/
theorem Transmitter.halt_live (t : Transmitter) :
    (t.state = .sending → t.halt.live = t.live ∧ t.halt.keptLive = none) ∧
      (t.state ≠ .sending → t.halt.live = none ∧ t.halt.keptLive = heldAnswer t.live) := by
  constructor <;> intro h <;> simp [Transmitter.halt, h]

/-- A request that finds the part HALTED changes nothing (R182). -/
theorem State.enterHalted_again {s : State} (h : s.mode = .halted) (cause : HaltCause) : s.enterHalted cause = s :=
  if_pos h

/-- The entry to HALTED, as the parts it writes (R182). -/
theorem State.enterHalted_eq {s : State} (h : s.mode ≠ .halted) (cause : HaltCause) :
    s.enterHalted cause =
      { s with
        mode := .halted
        cause := some cause
        cfgSelectLow := false
        cfgClock := 0
        loadingTimer := .stopped
        listeningTimer := .stopped
        tx := (s.enterHalted cause).tx
        rx := s.rx.halt
        mirror := s.mirror.map fun e => e.map MirrorEntry.halt
        sections := (s.enterHalted cause).sections
        lines := .const 8 .low } := by
  have e : s.enterHalted cause = (allSlots.foldl State.haltSection s).stopBlocks cause := if_neg h
  have f := foldl_sectionParts State.haltSection (fun t n => t.haltSection_eq n) allSlots s
  rw [e]
  generalize allSlots.foldl State.haltSection s = t at f
  obtain ⟨c, rfl⟩ : ∃ c, t = s.withSectionParts c := ⟨_, f⟩
  rfl

/-- One section at the entry to HALTED (R118). -/
theorem State.haltSection_sections (s : State) (n : Slot) :
    (s.haltSection n).sections =
      match s.sections.get n with
      | none => s.sections
      | some sec => s.sections.set n (some (sec.disturb .halt)) := by
  unfold State.haltSection
  cases h : s.sections.get n with
  | none => rfl
  | some sec =>
    dsimp only
    split
    · simp
    · rename_i unchanged
      have same : sec.disturb .halt = sec := by
        unfold Section.disturb
        split
        · rfl
        · rename_i other
          exfalso
          apply unchanged
          simp [sectionChanged, Section.disturb, other]
      rw [same, ← h, Table.set_get]

/-- A section that takes HALT twice takes it once. -/
theorem Section.disturb_disturb (cause : DisturbanceCause) (sec : Section) :
    (sec.disturb cause).disturb cause = sec.disturb cause := by
  unfold Section.disturb
  by_cases h : sec.state = .disturbed <;> simp [h]

/-- The slots of a list at the entry to HALTED (R118). -/
theorem foldl_haltSection_get (l : List Slot) (s : State) (n : Slot) :
    (l.foldl State.haltSection s).sections.get n =
      if n ∈ l then (s.sections.get n).map (Section.disturb .halt) else s.sections.get n := by
  have one : ∀ (t : State) (k : Slot), (t.haltSection k).sections.get n =
      if n = k then (t.sections.get n).map (Section.disturb .halt) else t.sections.get n := by
    intro t k
    rw [State.haltSection_sections]
    by_cases hk : n = k
    · subst hk
      cases hs : t.sections.get n <;> simp [hs]
    · cases hs : t.sections.get k <;> simp [hk, Table.get_set_other]
  induction l generalizing s with
  | nil => simp
  | cons k l ih =>
    rw [List.foldl_cons, ih, one]
    by_cases hk : n = k
    · subst hk
      by_cases hl : n ∈ l
      · simp [hl, Section.disturb_disturb, Function.comp_def]
      · simp [hl]
    · simp [hk]

@[simp] theorem State.stopBlocks_sections (s : State) (cause : HaltCause) :
    (s.stopBlocks cause).sections = s.sections := rfl

/-- Every section at the entry to HALTED (R118, R182). -/
theorem State.enterHalted_get {s : State} (h : s.mode ≠ .halted) (cause : HaltCause) (n : Slot) :
    (s.enterHalted cause).sections.get n = (s.sections.get n).map (Section.disturb .halt) := by
  have e : s.enterHalted cause = (allSlots.foldl State.haltSection s).stopBlocks cause := if_neg h
  have mem : n ∈ allSlots := by revert n; decide
  rw [e, State.stopBlocks_sections, foldl_haltSection_get, if_pos mem]

end Sys2Proof.Machine
end

