-- ==== Sys2Proof/Laws/Mirror.lean ====
section
/-! SUPPORT. What presenting a frame's counts to the mirror table can do (R90, R94 to R98). -/

namespace Sys2Proof.Machine

/-! ### An entry that takes a frame (R94, R95) -/

@[simp] theorem MirrorEntry.accept_station (e : MirrorEntry) (c : PointContent) :
    (e.accept c).station = e.station := rfl
@[simp] theorem MirrorEntry.accept_point (e : MirrorEntry) (c : PointContent) : (e.accept c).point = e.point := rfl
@[simp] theorem MirrorEntry.accept_hold (e : MirrorEntry) (c : PointContent) :
    (e.accept c).hold = .fresh c.view := rfl
@[simp] theorem MirrorEntry.accept_age (e : MirrorEntry) (c : PointContent) : (e.accept c).age = .started := rfl

/-- A frame overtakes an age expiry exactly where the timer has run its time (R99, log 34). -/
@[simp] theorem MirrorEntry.accept_overtaken (e : MirrorEntry) (c : PointContent) :
    (e.accept c).overtaken = (e.overtaken || e.expiryDue) := rfl

/-- Counts presented to one place: nothing there; an entry that takes them without a notification; a FRESH one that
notifies its sections (R94 to R98). -/
theorem State.presentAt_cases (s : State) (m : EntryIndex) (c : PointContent) :
    (s.mirror.get m = none ∧ s.presentAt m c = s) ∨
      ∃ e, s.mirror.get m = some e ∧
        (((∀ v, e.hold ≠ .fresh v) ∧ s.presentAt m c = s.setMirror m (e.accept c)) ∨
          ∃ v, e.hold = .fresh v ∧
            s.presentAt m c = (s.setMirror m (e.accept c)).notifySections (v.judge c) m) := by
  unfold State.presentAt
  cases hm : s.mirror.get m with
  | none => exact .inl ⟨rfl, rfl⟩
  | some e =>
    refine .inr ⟨e, rfl, ?_⟩
    dsimp only
    cases hh : e.hold with
    | unheard => exact .inl ⟨fun v h => (nomatch h), rfl⟩
    | stale v => exact .inl ⟨fun v h => (nomatch h), rfl⟩
    | fresh v => exact .inr ⟨v, rfl, rfl⟩

/-- Presenting counts writes the mirror table and the section parts (R90, R100). -/
theorem State.present_eq (s : State) (source : Station) (c : PointContent) :
    s.present source c =
      { s.withSectionParts (s.present source c) with mirror := (s.present source c).mirror } := by
  unfold State.present
  split
  · rfl
  · rename_i m _
    rcases s.presentAt_cases m c with ⟨_, e⟩ | ⟨e', _, ⟨_, e⟩ | ⟨v, _, e⟩⟩ <;> rw [e]
    · rfl
    · rfl
    · have n := State.notifySections_eq (s.setMirror m (e'.accept c)) (v.judge c) m
      generalize (s.setMirror m (e'.accept c)).notifySections (v.judge c) m = t at n
      obtain ⟨u, rfl⟩ : ∃ u, t = (s.setMirror m (e'.accept c)).withSectionParts u := ⟨_, n⟩
      rfl

/-- The entry found for a point is of that point (R178, check 8). -/
theorem State.entryFor_spec {s : State} {station : Station} {p : PointIndex} {m : EntryIndex}
    (h : s.entryFor station p = some m) : ∃ e, s.mirror.get m = some e ∧ e.station = station ∧ e.point = p := by
  have := List.find?_some h
  revert this
  cases s.mirror.get m with
  | none => intro h; cases h
  | some e =>
    intro h
    simp only [Bool.and_eq_true, beq_iff_eq] at h
    exact ⟨e, rfl, h.1, h.2⟩

/-- No entry is found only where none is of the point. -/
theorem State.entryFor_none {s : State} {station : Station} {p : PointIndex} (h : s.entryFor station p = none)
    (m : EntryIndex) (e : MirrorEntry) (he : s.mirror.get m = some e) : ¬ (e.station = station ∧ e.point = p) := by
  have all : ∀ k : EntryIndex, k ∈ allEntries := by decide
  have := List.find?_eq_none.1 h m (all m)
  rw [he] at this
  simpa using this

end Sys2Proof.Machine
end

