-- ==== Sys2Proof/Laws/Receive.lean ====
section
/-! SUPPORT. What the receiver's operations can do, one lemma each. -/

namespace Sys2Proof.Machine

/-- A free handler takes the oldest waiting frame; else nothing changes (R87). -/
theorem Receiver.takeUp_cases (r : Receiver) :
    (∃ oldest rest, r.handling = none ∧ r.fifo = oldest :: rest ∧
        r.takeUp = { r with handling := some oldest, fifo := rest }) ∨
      ((r.handling.isSome = true ∨ r.fifo = []) ∧ r.takeUp = r) := by
  unfold Receiver.takeUp
  cases hh : r.handling with
  | some b => exact .inr ⟨.inl rfl, by cases r.fifo <;> rfl⟩
  | none =>
    cases hf : r.fifo with
    | nil => exact .inr ⟨.inr rfl, rfl⟩
    | cons oldest rest => exact .inl ⟨oldest, rest, rfl, rfl, rfl⟩

/-- A good frame is an overrun, or waits in the FIFO, whose oldest frame a free handler takes (R87). -/
theorem Receiver.enqueue_cases (r : Receiver) (bytes : List Byte) :
    (2 ≤ r.fifo.length ∧ r.enqueue bytes = r) ∨
      (r.fifo.length < 2 ∧ r.enqueue bytes = ({ r with fifo := r.fifo ++ [bytes] } : Receiver).takeUp) := by
  unfold Receiver.enqueue
  by_cases h : r.fifo.length < Config.fifoCapacity
  · exact .inr ⟨h, if_pos h⟩
  · exact .inl ⟨Nat.le_of_not_lt h, if_neg h⟩

/-- A frame of full length is judged (R84 to R87). -/
theorem State.judgeFrame_cases (s : State) (bytes : List Byte) :
    let hunting := s.withRx { s.rx.discard with sent := none }
    (crc bytes ≠ 0#16 ∧ s.judgeFrame bytes = hunting) ∨
      (crc bytes = 0#16 ∧ s.station = some (sourceOf bytes) ∧ s.ownFrame bytes = true ∧
        s.judgeFrame bytes = hunting) ∨
      (crc bytes = 0#16 ∧ s.station = some (sourceOf bytes) ∧ s.ownFrame bytes = false ∧
        s.judgeFrame bytes = (hunting.enterHalted .clash).driveAttn) ∨
      (crc bytes = 0#16 ∧ s.station ≠ some (sourceOf bytes) ∧
        s.judgeFrame bytes = hunting.withRx (hunting.rx.enqueue bytes)) := by
  intro hunting
  unfold State.judgeFrame
  by_cases hc : crc bytes = 0#16
  · by_cases hs : s.station = some (sourceOf bytes)
    · cases ho : s.ownFrame bytes
      · exact .inr (.inr (.inl ⟨hc, hs, rfl, by simp [hc, hs, hunting]⟩))
      · exact .inr (.inl ⟨hc, hs, rfl, by simp [hc, hs, hunting]⟩)
    · exact .inr (.inr (.inr ⟨hc, hs, by simp [hc, hs, hunting]⟩))
  · exact .inl ⟨hc, by simp [hc, hunting]⟩

/-- A correctly framed character ends (R82 to R84). -/
theorem State.takeCharacter_cases (s : State) (b : Byte) :
    (s.rx.atLength = true ∧ goodLength b = false ∧
        s.takeCharacter b = s.withRx (s.rx.takeByte b).discard) ∨
      (s.rx.completes b = true ∧
        s.takeCharacter b = (s.withRx (s.rx.takeByte b)).judgeFrame (s.rx.takeByte b).buffer) ∨
      (s.rx.completes b = false ∧ (s.rx.atLength = true → goodLength b = true) ∧
        s.takeCharacter b = s.withRx (s.rx.takeByte b)) := by
  unfold State.takeCharacter
  by_cases h1 : s.rx.atLength = true ∧ goodLength b = false
  · exact .inl ⟨h1.1, h1.2, by simp [h1.1, h1.2, State.withRx]⟩
  · cases h2 : s.rx.completes b
    · refine .inr (.inr ⟨rfl, fun h => by simpa [h] using h1, by simp [h1]⟩)
    · exact .inr (.inl ⟨rfl, by simp [h1, State.withRx]⟩)

/-- A start bit (R60, R81, R82). -/
theorem Receiver.takeStart_cases (r : Receiver) (one : Bool) :
    let seen : Receiver := { r with idleCount := 0, sent := none }
    (one = true ∧ r.assembling = true ∧ r.takeStart one = seen.discard) ∨
      (one = true ∧ r.assembling = false ∧ r.takeStart one = seen) ∨
      (one = false ∧ r.assembling = true ∧ r.takeStart one = { seen with inCharacter := true }) ∨
      (one = false ∧ r.assembling = false ∧ r.idleCount = 12 ∧
        r.takeStart one = { seen with assembling := true, buffer := [], inCharacter := true }) ∨
      (one = false ∧ r.assembling = false ∧ r.idleCount ≠ 12 ∧
        r.takeStart one = { seen with inCharacter := true }) := by
  intro seen
  unfold Receiver.takeStart
  cases one <;> cases ha : r.assembling <;> simp [seen, ha]
  by_cases hi : r.idleCount = 12 <;> simp [hi, Config.idleBits]

end Sys2Proof.Machine
end

