-- ==== Sys2Proof/Laws/Handle.lean ====
section
/-! SUPPORT. What the end of a handling can do (R87 to R93). -/

namespace Sys2Proof.Machine

/-- The handler becomes free and takes the oldest waiting frame (R87). -/
theorem State.finishHandling_eq (s : State) :
    s.finishHandling = s.withRx { s.rx with handling := s.rx.fifo.head?, fifo := s.rx.fifo.tail } := by
  unfold State.finishHandling Receiver.takeUp
  cases h : s.rx.fifo with
  | nil => simp [h]
  | cons a l => simp

/-- A handling ends: no such handling; an invalid frame; a frame whose effect takes hold (R88 to R90). -/
theorem State.endHandling_cases (s : State) (ofClass : Nat → Bool) (effect : Received → State → State) :
    (s.endHandling ofClass effect = s ∧
        ∀ bytes, s.rx.handling = some bytes → ¬ (s.mode.listens = true ∧ ofClass (classOf bytes) = true)) ∨
      ∃ bytes, s.rx.handling = some bytes ∧ s.mode.listens = true ∧ ofClass (classOf bytes) = true ∧
        ((parseFrame bytes = none ∧ s.endHandling ofClass effect = s.finishHandling) ∨
          ∃ f, parseFrame bytes = some f ∧
            s.endHandling ofClass effect = (effect f s).finishHandling.preempt.driveAttn) := by
  unfold State.endHandling
  cases hh : s.rx.handling with
  | none => exact .inl ⟨rfl, fun _ h => (nomatch h)⟩
  | some bytes =>
    dsimp only
    by_cases hc : s.mode.listens = true ∧ ofClass (classOf bytes) = true
    · refine .inr ⟨bytes, rfl, hc.1, hc.2, ?_⟩
      rw [if_pos hc]
      cases hp : parseFrame bytes with
      | none => exact .inl ⟨rfl, rfl⟩
      | some f => exact .inr ⟨f, rfl, rfl⟩
    · exact .inl ⟨if_neg hc, fun b h => by cases h; exact hc⟩

/-- Reading a SETTLE REQUEST writes the transmitter alone (R91). -/
theorem foldl_answerPoint_eq (requester : Station) (n : Slot) (tag : Serial) (l : List (Station × PointIndex))
    (s : State) :
    l.foldl (answerPoint requester n tag) s = s.withTx (l.foldl (answerPoint requester n tag) s).tx := by
  induction l generalizing s with
  | nil => rfl
  | cons p l ih =>
    rw [List.foldl_cons, ih]
    unfold answerPoint
    split <;> rfl

end Sys2Proof.Machine
end

