-- ==== Sys2Proof/Laws/Line.lean ====
section
/-! SUPPORT. What the operations over bits on a line can do: bytes and their bits (R59, R82, R176), the data line of the
configuration read (R176), and what the transmitter sends and reads back (R58, R74 to R76). -/

namespace Sys2Proof.Machine

/-! ### Bytes and their bits -/

@[simp] theorem byteBits_length (b : Byte) : (byteBits b).length = 8 := rfl

@[simp] theorem characterBits_length (b : Byte) : (characterBits b).length = 10 := rfl

/-- A byte is read from its own bits (R59, R82). -/
@[simp] theorem byteOfBits_byteBits (b : Byte) : byteOfBits (byteBits b) = b := by
  revert b; decide

@[simp] theorem bytesOfBits_nil : bytesOfBits [] = [] := rfl

/-- Eight bits of a byte come first (R176). -/
@[simp] theorem bytesOfBits_byteBits_append (b : Byte) (rest : List Bool) :
    bytesOfBits (byteBits b ++ rest) = b :: bytesOfBits rest :=
  congrArg (· :: bytesOfBits rest) (byteOfBits_byteBits b)

/-- The bytes taken are the bytes that were sent bit by bit (R176). -/
theorem bytesOfBits_flatMap (bytes : List Byte) : bytesOfBits (bytes.flatMap byteBits) = bytes := by
  induction bytes with
  | nil => rfl
  | cons b rest ih => rw [List.flatMap_cons, bytesOfBits_byteBits_append, ih]

/-! ### The data line of the configuration read -/

@[simp] theorem readRequest_length : readRequest.length = 16 := rfl

/-- Outside a read, and after the request, CFG_DATA is released (R176). -/
theorem State.cfgData_released {s : State} (h : s.cfgSelectLow = false ∨ 16 ≤ s.cfgClock) : s.cfgData = none := by
  unfold State.cfgData
  rcases h with h | h
  · simp [h]
  · split
    · exact List.getElem?_eq_none h
    · rfl

/-- During the request CFG_DATA carries its bits in order (R176). -/
theorem State.cfgData_request {s : State} (h : s.cfgSelectLow = true) : s.cfgData = readRequest[s.cfgClock]? :=
  if_pos h

/-! ### What the transmitter sends and reads back -/

/-- The transmitter sends the first nine bits in ARBITRATING, the later ones in SENDING, and else nothing (R72, R74,
R75). -/
theorem Transmitter.sentBit_cases (t : Transmitter) (position : Nat) :
    (t.state = .arbitrating ∧ position < 9 ∧ t.sentBit position = t.liveBits[position]?) ∨
      (t.state = .sending ∧ 9 ≤ position ∧ t.sentBit position = t.liveBits[position]?) ∨
      t.sentBit position = none := by
  unfold Transmitter.sentBit
  cases h : t.state
  case arbitrating =>
    by_cases p : position < 9
    · exact .inl ⟨rfl, p, if_pos p⟩
    · exact .inr (.inr (if_neg p))
  case sending =>
    by_cases p : 9 ≤ position
    · exact .inr (.inl ⟨rfl, p, if_pos p⟩)
    · exact .inr (.inr (if_neg p))
  all_goals exact .inr (.inr rfl)

/-- A bit error is a 0 read as 1, or in SENDING a 1 read as 0 (R74, R76). -/
theorem Transmitter.bitErrorAt_iff (t : Transmitter) (position : Nat) (samples : BitSamples) :
    t.bitErrorAt position samples = true ↔
      (t.sentBit position = some false ∧ bitValue samples = true) ∨
        (t.sentBit position = some true ∧ t.state = .sending ∧ bitValue samples = false) := by
  unfold Transmitter.bitErrorAt
  rcases h : t.sentBit position with _ | _ | _ <;> simp

/-- The line is driven for a 0 that is being sent (R56). -/
theorem Transmitter.drives_dominant_iff (t : Transmitter) (position : Nat) :
    t.drives position = .dominant ↔ t.sentBit position = some false := by
  unfold Transmitter.drives
  split <;> simp_all

end Sys2Proof.Machine
end

