-- ==== Sys2Proof/Laws/Points.lean ====
section
/-! SUPPORT. What a sweep makes of the channels, the reference and the point records, and that it writes nothing else. -/

namespace Sys2Proof.Machine

/-- The channels of every point after a sweep (R1 to R8, R13). -/
@[simp] theorem State.sweepFront_get (s : State) (r : Results) (p : PointIndex) :
    (s.sweepFront r).front.get p =
      (s.front.get p).sweep s.deb (s.pointConfig p) (resultOf r p .a) (resultOf r p .b) := by
  simp [State.sweepFront]

/-- Every record after the evaluations of a sweep (R19, R37). -/
@[simp] theorem State.sweepRecords_get (s : State) (p : PointIndex) :
    s.sweepRecords.records.get p = s.evaluatedRecord p := by
  simp [State.sweepRecords]

/-! ### What the configuration says depends on the configuration alone -/

theorem State.pointConfig_congr {s t : State} (h : s.config = t.config) (p : PointIndex) :
    s.pointConfig p = t.pointConfig p := by
  unfold State.pointConfig
  rw [h]

theorem State.pointInUse_congr {s t : State} (h : s.config = t.config) (p : PointIndex) :
    s.pointInUse p = t.pointInUse p := by
  unfold State.pointInUse
  rw [State.pointConfig_congr h]

theorem State.deb_congr {s t : State} (h : s.config = t.config) : s.deb = t.deb := by
  unfold State.deb
  rw [h]

theorem State.dwellLength_congr {s t : State} (h : s.config = t.config) : s.dwellLength = t.dwellLength := by
  unfold State.dwellLength
  rw [h]

/-! ### The evaluation of one record, part by part (R19) -/

@[simp] theorem PointRecord.evaluate_state (cfg : PointConfig) (d : Nat) (h : HandOver) (r : PointRecord) :
    (r.evaluate cfg d h).state = (r.takeLevels cfg d h).state := rfl
@[simp] theorem PointRecord.evaluate_nAB (cfg : PointConfig) (d : Nat) (h : HandOver) (r : PointRecord) :
    (r.evaluate cfg d h).nAB = (r.takeLevels cfg d h).nAB := rfl
@[simp] theorem PointRecord.evaluate_nBA (cfg : PointConfig) (d : Nat) (h : HandOver) (r : PointRecord) :
    (r.evaluate cfg d h).nBA = (r.takeLevels cfg d h).nBA := rfl
@[simp] theorem PointRecord.evaluate_last (cfg : PointConfig) (d : Nat) (h : HandOver) (r : PointRecord) :
    (r.evaluate cfg d h).last = (r.takeLevels cfg d h).last := rfl
@[simp] theorem PointRecord.evaluate_lag (cfg : PointConfig) (d : Nat) (h : HandOver) (r : PointRecord) :
    (r.evaluate cfg d h).lag = (r.takeLevels cfg d h).lag := rfl
@[simp] theorem PointRecord.evaluate_dwell (cfg : PointConfig) (d : Nat) (h : HandOver) (r : PointRecord) :
    (r.evaluate cfg d h).dwell = (r.takeLevels cfg d h).dwell := rfl
@[simp] theorem PointRecord.evaluate_condition (cfg : PointConfig) (d : Nat) (h : HandOver) (r : PointRecord) :
    (r.evaluate cfg d h).condition = conditionOf (r.takeLevels cfg d h).state h := rfl
@[simp] theorem PointRecord.evaluate_head (cfg : PointConfig) (d : Nat) (h : HandOver) (r : PointRecord) :
    (r.evaluate cfg d h).head =
      headOf (r.takeLevels cfg d h).state (conditionOf (r.takeLevels cfg d h).state h) h := rfl
@[simp] theorem PointRecord.evaluate_serial (cfg : PointConfig) (d : Nat) (h : HandOver) (r : PointRecord) :
    (r.evaluate cfg d h).serial =
      advanceSerial r.condition (conditionOf (r.takeLevels cfg d h).state h) (r.overspeeds cfg h) r.serial := rfl

/-- Steps 1 to 3 of R19, one by one. -/
theorem PointRecord.takeLevels_cases (cfg : PointConfig) (d : Nat) (h : HandOver) (r : PointRecord) :
    (r.state = .blocked ∧ r.takeLevels cfg d h = r.takeDwell d h) ∨
      (r.state ≠ .blocked ∧ h.faulted = true ∧ r.takeLevels cfg d h = r.block) ∨
      (r.state ≠ .blocked ∧ h.faulted = false ∧ r.takeLevels cfg d h = r.takePair cfg.spacing h) := by
  unfold PointRecord.takeLevels
  by_cases hb : r.state = .blocked
  · exact .inl ⟨hb, if_pos hb⟩
  · cases hf : h.faulted
    · exact .inr (.inr ⟨hb, rfl, by simp [hb]⟩)
    · exact .inr (.inl ⟨hb, rfl, by simp [hb]⟩)

/-- The pair counts a passage in TRAIL at (f, f), and else leaves counts and last passage alone (R26). -/
theorem PointRecord.takePair_counts (spacing : Nat) (h : HandOver) (r : PointRecord) :
    (r.state = .trailA ∧ h.filteredA = .free ∧ h.filteredB = .free ∧
        r.takePair spacing h = r.countPassage spacing .ab) ∨
      (r.state = .trailB ∧ h.filteredA = .free ∧ h.filteredB = .free ∧
        r.takePair spacing h = r.countPassage spacing .ba) ∨
      ((r.takePair spacing h).nAB = r.nAB ∧ (r.takePair spacing h).nBA = r.nBA ∧
        (r.takePair spacing h).last = r.last) := by
  unfold PointRecord.takePair
  split <;> simp_all [PointRecord.pass, PointRecord.back, PointRecord.block]

/-- The dwell never changes counts, last passage, lag or the stored condition (R25). -/
theorem PointRecord.takeDwell_keeps (d : Nat) (h : HandOver) (r : PointRecord) :
    r.takeDwell d h = { r with state := (r.takeDwell d h).state, dwell := (r.takeDwell d h).dwell } := by
  unfold PointRecord.takeDwell
  split
  · split <;> rfl
  · rfl

/-- What the dwell makes of a blocked record (R25). -/
theorem PointRecord.takeDwell_cases (d : Nat) (h : HandOver) (r : PointRecord) :
    (h.quiet = false ∧ r.takeDwell d h = { r with dwell := 0 }) ∨
      (h.quiet = true ∧ r.dwell + 1 = d ∧ r.takeDwell d h = { r with state := .idle, dwell := 0 }) ∨
      (h.quiet = true ∧ r.dwell + 1 ≠ d ∧ r.takeDwell d h = { r with dwell := r.dwell + 1 }) := by
  unfold PointRecord.takeDwell
  cases hq : h.quiet
  · simp
  · by_cases hd : r.dwell + 1 = d <;> simp [hd]

end Sys2Proof.Machine
end

