-- ==== Sys2Proof/Laws/Sweep.lean ====
section
/-! SUPPORT. What a whole sweep completion can change: front end and records as swept, the section parts, the ATTN lines
and the count of free values. -/

namespace Sys2Proof.Machine

/-- One point change at the section of a slot writes the section parts alone. -/
theorem sweepChange_eq (n : Slot) (acc : State × Bool) (p : PointIndex) :
    (sweepChange n acc p).1 = acc.1.withSectionParts (sweepChange n acc p).1 :=
  acc.1.reachSection_eq n none (.localPoint p)

/-- The section of a slot at a sweep completion writes the section parts alone. -/
theorem State.sweepSlot_eq (changed : List PointIndex) (draw : Nat) (s : State) (n : Slot) :
    State.sweepSlot changed draw s n = s.withSectionParts (State.sweepSlot changed draw s n) := by
  have fold : ∀ (l : List PointIndex) (acc : State × Bool),
      (l.foldl (sweepChange n) acc).1 = acc.1.withSectionParts (l.foldl (sweepChange n) acc).1 := by
    intro l
    induction l with
    | nil => intro acc; rfl
    | cons p l ih =>
      intro acc
      rw [List.foldl_cons, ih, sweepChange_eq]
      rfl
  unfold State.sweepSlot
  dsimp only
  split
  · exact fold _ _
  · rw [fold]
    rfl

/-- The reports that a completion makes due change the transmitter alone. -/
theorem foldl_pointChangeDue_eq (l : List PointIndex) (s : State) :
    l.foldl State.pointChangeDue s = s.withTx (l.foldl State.pointChangeDue s).tx := by
  induction l generalizing s with
  | nil => rfl
  | cons p l ih =>
    rw [List.foldl_cons, ih, State.pointChangeDue_eq]
    rfl

/-- Outside LISTENING and RUNNING there is no sweep (R14, R16). -/
theorem State.completeSweep_silent {s : State} (h : s.mode.listens = false) (r : Results) : s.completeSweep r = s := by
  unfold State.completeSweep
  rw [h]
  rfl

/-- The stages of a completion, each of which writes its own parts. -/
theorem sweep_stages {swept reported sectioned preempted : State} {draws : Nat}
    (first : reported = swept.withTx reported.tx) (second : sectioned = reported.withSectionParts sectioned)
    (third : preempted = { sectioned with draws := draws }.withTx preempted.tx) :
    preempted.driveAttn =
      { swept.withSectionParts preempted.driveAttn with
        attn0 := preempted.driveAttn.attn0, attn1 := preempted.driveAttn.attn1, draws := draws } := by
  generalize preempted.tx = x at third
  generalize reported.tx = y at first
  subst first
  have second' : ∃ c, sectioned = (swept.withTx y).withSectionParts c := ⟨_, second⟩
  obtain ⟨c, rfl⟩ := second'
  subst third
  rfl

/-- A sweep completion, as the parts it writes (R1, R19, R36). -/
theorem State.completeSweep_eq {s : State} (h : s.mode.listens = true) (r : Results) :
    s.completeSweep r =
      { (s.sweepFront r).sweepRecords.withSectionParts (s.completeSweep r) with
        attn0 := (s.completeSweep r).attn0, attn1 := (s.completeSweep r).attn1, draws := s.draws + 1 } := by
  have e : s.completeSweep r = (s.sweep r).preempt.driveAttn := if_pos h
  rw [e]
  exact sweep_stages (foldl_pointChangeDue_eq _ _) (foldl_sectionParts _ (State.sweepSlot_eq _ _) _ _)
    (State.preempt_eq _)

theorem State.completeSweep_records {s : State} (h : s.mode.listens = true) (r : Results) :
    (s.completeSweep r).records = (s.sweepFront r).sweepRecords.records := by
  rw [State.completeSweep_eq h]
  rfl

theorem State.completeSweep_front {s : State} (h : s.mode.listens = true) (r : Results) :
    (s.completeSweep r).front = (s.sweepFront r).front := by
  rw [State.completeSweep_eq h]
  rfl

theorem State.completeSweep_reference {s : State} (h : s.mode.listens = true) (r : Results) :
    (s.completeSweep r).reference = s.reference.sweep r.reference := by
  rw [State.completeSweep_eq h]
  rfl

theorem State.completeSweep_config (s : State) (r : Results) : (s.completeSweep r).config = s.config := by
  cases h : s.mode.listens
  · rw [State.completeSweep_silent h]
  · rw [State.completeSweep_eq h]
    rfl

theorem State.completeSweep_mode (s : State) (r : Results) : (s.completeSweep r).mode = s.mode := by
  cases h : s.mode.listens
  · rw [State.completeSweep_silent h]
  · rw [State.completeSweep_eq h]
    rfl

end Sys2Proof.Machine
end

