-- ==== Sys2Proof/WellFormed.lean ====
section
/-! DEFINITION. What makes a command well-formed: the operands lie in the ranges the spec gives. Operands whose types
already hold the range (samples, points, slots, straps) need no check. -/

namespace Sys2Proof

/-- The longest frame is 13 bytes, 130 bits (R59, R61). -/
def frameBitLimit : Nat := 130

/-- The operands of a command lie in their ranges. -/
def Instr.wellFormed : Instr → Bool
  | .configurationReadComplete levels => levels.length = 2048
  | .arbitrationWon bits => bits.length = 9
  | .bitError position _ => position < frameBitLimit
  | .mute position _ => position < frameBitLimit
  | .badLength data => data.length = 8
  | .receiverFrameComplete data => data.length = 8
  | .characterComplete data => data.length = 8
  | .resetAssertion _ => true
  | .resetRelease _ => true
  | .loadingTimerExpiry => true
  | .listeningTimerExpiry => true
  | .sweepCompletion _ => true
  | .filteredLevelChange _ _ _ => true
  | .channelFaulted _ _ _ => true
  | .channelRecovered _ _ _ => true
  | .referenceFaulted _ => true
  | .referenceRecovered _ => true
  | .dwellEnd _ _ => true
  | .toggleHalfPeriod _ _ => true
  | .reportTimerExpiry _ => true
  | .statusTimerExpiry _ => true
  | .ageTimerExpiry _ => true
  | .deadlineExpiry _ => true
  | .holdOffExpiry _ => true
  | .nextLayerLoad => true
  | .liveLayerMove => true
  | .idleCompletion => true
  | .lostArbitration _ _ => true
  | .frameCompletion _ => true
  | .framingError _ _ => true
  | .countReport => true
  | .settleAnswer => true
  | .settleRequest => true
  | .sectionStatus => true
  | .restoreCommand => true
  | .startBit _ _ => true
  | .class7FrameHandled => true

end Sys2Proof
end

