-- ==== Sys2Proof/Tests/Slice0.lean ====
section
/-! SUPPORT. Tests: ill-formed commands, worked values of the spec, and for each statement with hypotheses a state and
operands that meet them. -/

set_option maxRecDepth 20000

namespace Sys2Proof.Tests

open Sys2Proof Sys2Proof.Machine Sys2Proof.Claims

/-! ## A small station -/

/-- A point as configured in 11: 140 mm, 450 km/h, TD 300, TR 340. -/
def pointCfg : PointConfig := { spacing := 140, vmax := 450, tdA := 300, trA := 340, tdB := 300, trB := 340 }

/-- The quiet view of a remote point with START clear. -/
def quietView : MirrorView := { nAB := 0, nBA := 0, head := .free, condition := .normal, serial := 0, start := false }

/-- Station 7, point 0, FRESH. -/
def entry : MirrorEntry := { station := 7, point := 0, hold := .fresh quietView, age := .started, overtaken := false }

/-- DEB 3, dwell 1 s, points 0 to 2 in use, restore stations 30 and 31, the entry UNHEARD, no section. -/
def config : LoadedConfig :=
  { deb := 3, dwellCode := 1, attnRouting := 0xF5, restore1 := 30, restore2 := 31
    points := .tabulate fun p => if p.val < 3 then some pointCfg else none
    mirror := .tabulate fun m => if m = 0 then some { entry with hold := .unheard, age := .stopped } else none
    sections := .const 8 none }

/-- A term with all counts 0. -/
def term (source : TermSource) (sense : Sense) : Term :=
  { source := source, sense := sense, aAB := 0, aBA := 0, bAB := 0, bBA := 0, aSerial := 0 }

/-- A CLEAR section of local terms. -/
def clearSection : Section :=
  { number := 100, direct := true, terms := [term (.localPoint 0) .inwardAB, term (.localPoint 1) .inwardBA]
    state := .clear, balance := some 0, cause := none, swept := false, round := none, rounds := 0
    holdOff := .stopped, nextTag := 0, restoreSerial := none, restoreOutcome := .none }

/-- A SETTLING section with an open round for the mirror entry. -/
def settlingSection : Section :=
  { clearSection with
    terms := [term (.localPoint 1) .inwardAB, term (.mirror 0) .inwardBA], state := .settling, nextTag := 1, rounds := 1
    round := some { id := 0, tag := 0, unanswered := [1], deadline := .started } }

/-- A DISTURBED section whose mode is PROVE. -/
def disturbedSection : Section :=
  { clearSection with
    terms := [term (.localPoint 0) .inwardAB, term (.mirror 0) .inwardAB], direct := false
    state := .disturbed, balance := none, cause := some .start }

/-- An OCCUPIED section with its hold-off running. -/
def occupiedSection : Section :=
  { clearSection with terms := [term (.localPoint 2) .inwardAB], state := .occupied, holdOff := .started }

/-- A PROVING section. -/
def provingSection : Section := { clearSection with terms := [term (.localPoint 2) .inwardAB], state := .proving }

/-- A DISTURBED section that permits DIRECT, with a remote term. -/
def directSection : Section := { disturbedSection with direct := true }

/-- A DISTURBED section that permits DIRECT, all its terms local, which has judged serial 5. -/
def localSection : Section :=
  { directSection with
    terms := [term (.localPoint 2) .inwardAB], restoreSerial := some 5, restoreOutcome := .refusedTerms }

/-- The seven sections in slots 0 to 6. -/
def sections : Table (Option Section) 8 :=
  ⟨[some clearSection, some settlingSection, some disturbedSection, some occupiedSection, some provingSection,
    some directSection, some localSection, none], rfl⟩

/-- Station 4 in RUNNING with nothing to send. -/
def running : State :=
  { State.reset with
    mode := .running
    station := some 4
    config := some config
    tx := { Transmitter.reset with
      reportTimers := ⟨[.started, .started, .started, .stopped], rfl⟩
      statusTimers := ⟨[.started, .started, .started, .started, .started, .started, .started, .stopped], rfl⟩ }
    mirror := .tabulate fun m => if m = 0 then some entry else none
    sections := sections
    lines := ClearLine.low |> fun l =>
      ⟨[{ toggling := true, high := true, phase := 0 }, l, l, l, l, l, l, l], rfl⟩
    attn1 := .released }

/-- The state after a command. -/
def after (c : Instr) (s : State) : State :=
  match exec c s with
  | .next t => t
  | .fault _ => s
  | .refused _ => s

/-- Results with point 0 as given and everything else free and in band. -/
def sweepOf (a b : Sample) : Results :=
  { a0 := a, b0 := b, a1 := 700, b1 := 700, a2 := 700, b2 := 700, a3 := 700, b3 := 700, reference := 512 }

/-- `s` with channel A of point 0 changed. -/
def withA (f : Channel → Channel) (s : State) : State :=
  { s with front := s.front.set 0 { (s.front.get 0) with a := f (s.front.get 0).a } }

/-- `s` with channel B of point 0 changed. -/
def withB (f : Channel → Channel) (s : State) : State :=
  { s with front := s.front.set 0 { (s.front.get 0) with b := f (s.front.get 0).b } }

/-- `s` with the record of point 0 changed. -/
def withRecord (f : PointRecord → PointRecord) (s : State) : State :=
  { s with records := s.records.set 0 (f (s.records.get 0)) }

/-- `s` with the toggle phase of slot 0 changed. -/
def withPhase (phase : Nat) (s : State) : State :=
  { s with lines := s.lines.set 0 { toggling := true, high := decide (phase < 25), phase := phase } }

/-! ## Ill-formed commands are refused -/

theorem test_illformed_image : Instr.wellFormed (.configurationReadComplete (List.replicate 8 true)) = false := by
  decide
theorem test_illformed_arbitration : Instr.wellFormed (.arbitrationWon (List.replicate 8 (steady false))) = false := by
  decide
theorem test_illformed_badLength : Instr.wellFormed (.badLength (List.replicate 7 (steady true))) = false := by decide
theorem test_illformed_frameComplete : Instr.wellFormed (.receiverFrameComplete []) = false := by decide
theorem test_illformed_character : Instr.wellFormed (.characterComplete (List.replicate 9 (steady true))) = false := by
  decide
theorem test_illformed_bitError : Instr.wellFormed (.bitError 130 (steady true)) = false := by decide
theorem test_illformed_mute : Instr.wellFormed (.mute 130 (steady true)) = false := by decide
theorem test_wellformed_bitError : Instr.wellFormed (.bitError 129 (steady true)) = true := by decide

/-! ## Worked values of the spec -/

/-- R62: the check of the nine digits. -/
theorem test_crc_check_value : crc [0x31, 0x32, 0x33, 0x34, 0x35, 0x36, 0x37, 0x38, 0x39] = 0x29B1#16 := by decide

/-- 1.4: sweep 8 of the debounce table. -/
theorem test_debounce_completes :
    let s := after (.sweepCompletion (sweepOf 270 700)) (withA (fun c => { c with raw := .damped, run := 2 }) running)
    (s.channel 0 .a).filtered = .damped ∧ (s.channel 0 .a).run = 0 ∧ (s.channel 0 .a).onset = 2 := by decide

/-- 1.4: sweep 4 of the debounce table, a sample in the band. -/
theorem test_debounce_band :
    let s := after (.sweepCompletion (sweepOf 322 700)) (withA (fun c => { c with raw := .damped, run := 1 }) running)
    (s.channel 0 .a).filtered = .free ∧ (s.channel 0 .a).run = 2 := by decide

/-- 2.12: lag 210 at 140 mm is 120 km/h; 11.4: lag 75 at 200 mm is 480 km/h; lag 80 exactly 450. -/
theorem test_speeds : passageSpeed 140 210 = 120 ∧ passageSpeed 200 75 = 480 ∧ passageSpeed 200 80 = 450 := by decide

/-- 2.12: the lag of the counted passage. -/
theorem test_lag : capturedLag 212 2 = 210 ∧ capturedLag 65535 2 = 65535 := by decide

/-- 4.7: the arbitration bytes of stations 9, 20 and 12. -/
theorem test_arbitration_bytes :
    arbitrationByte 3 9 = 0x69 ∧ arbitrationByte 3 20 = 0x74 ∧ arbitrationByte 2 12 = 0x4C := by decide

/-- 5.6 and R97: 65530 to 4 is 10, 65530 to 65529 is a jump. -/
theorem test_count_deltas : countDelta 4 65530 = 10 ∧ countDelta 65529 65530 = 65535 := by decide

/-- 11.1, step 6: an INWARD_AB term whose nBA goes from 65535 to 1 contributes −2. -/
theorem test_contribution :
    Term.contribution { term (.mirror 0) .inwardAB with aAB := 3000, aBA := 65535 }
      { nAB := 3000, nBA := 1, head := .wheelOn, condition := .normal, serial := 0, fresh := true } = -2 := by decide

/-- R183: one low cycle is ignored, two are an assertion. -/
theorem test_reset_cycles : (after (.resetAssertion 1) running).mode = .running ∧
    (after (.resetAssertion 2) running).mode = .heldInReset := by decide

/-- R178: straps of 0 halt the part. -/
theorem test_release_without_station : (after (.resetRelease 0) State.reset).mode = .halted ∧
    (after (.resetRelease 4) State.reset).mode = .loading := by decide

/-- R178: an image of zeros ends LOADING in HALTED with cause CONFIG. -/
theorem test_blank_image :
    (after (.configurationReadComplete (List.replicate 2048 false)) (after (.resetRelease 4) State.reset)).cause =
      some .config := by decide

/-- R127: a wheel on a local term of a CLEAR section takes it to OCCUPIED and its line low. -/
theorem test_wheel_leaves_clear :
    let s := after (.sweepCompletion (sweepOf 200 700)) (withA (fun c => { c with raw := .damped, run := 2 }) running)
    (s.sections.get 0).map Section.state = some .occupied ∧ s.lines.get 0 = .low := by decide

/-- R167: the 25th completion takes a CLEAR line low. -/
theorem test_toggle :
    ((after (.sweepCompletion (sweepOf 700 700)) (withPhase 23 running)).lines.get 0).high = true ∧
      ((after (.sweepCompletion (sweepOf 700 700)) (withPhase 24 running)).lines.get 0).high = false := by decide

/-- R143: the deadline closes the round; the section is OCCUPIED with its hold-off started. -/
theorem test_deadline : ((after (.deadlineExpiry 1) running).sections.get 1).map (fun x => (x.state, x.holdOff.running)) =
    some (.occupied, true) := by decide

/-- R125, R132: a quiet all-local section at balance 0 is CLEAR at the hold-off expiry. -/
theorem test_hold_off : ((after (.holdOffExpiry 3) running).sections.get 3).map Section.state = some .clear := by decide

/-- R99: a FRESH entry is STALE at the expiry, and its section DISTURBED with cause STALE. -/
theorem test_age_expiry : ((after (.ageTimerExpiry 0) running).sections.get 1).bind Section.cause = some .stale := by
  decide

/-- R171: the entry to RUNNING makes reports pending, then statuses. -/
theorem test_running_entries :
    ((after .listeningTimerExpiry { running with mode := .listening, listeningTimer := .started }).tx.entries.map
      Entry.cls) = [3, 3, 3, 4, 4, 4, 4, 4, 4, 4] := by decide

/-- R57: a single dominant sample reads as recessive, two beside each other as dominant. -/
theorem test_pulse_validation :
    bitValue { s6 := .recessive, s7 := .dominant, s8 := .recessive, s9 := .dominant, s10 := .recessive } = true ∧
      bitValue { s6 := .recessive, s7 := .dominant, s8 := .dominant, s9 := .recessive, s10 := .recessive } = false := by
  decide

/-- R79: at the entry to HALTED a SENDING frame goes on, a WAITING one is not begun. -/
theorem test_halt_by_transmitter_state :
    let t := fun state => ({ running with tx := { running.tx with
      state := state, live := some ⟨⟨.request 1 0 0, 2, 0⟩, .settleRequest 4 1 0 [(7, 0)]⟩ } }).enterHalted .clash
    (t .sending).tx.state = .sending ∧ (t .sending).tx.live.isSome = true ∧ (t .waiting).tx.state = .quiet ∧
      (t .waiting).tx.live = none := by decide

/-- R79, R136: at the entry to HALTED an answer in a layer stays there unsent, and one that is SENDING goes on. -/
theorem test_halt_keeps_answers :
    let held : Option LayerFrame := some ⟨⟨.answer 7 1 0 0, 1, 0⟩, .restoreCommand 4 7 1 false 0⟩
    let t := fun state => ({ running with tx := { running.tx with state := state, live := held, next := held } }).enterHalted
      .clash
    (t .waiting).tx.live = none ∧ (t .waiting).tx.keptLive = held ∧ (t .sending).tx.live = held ∧
      (t .sending).tx.keptLive = none ∧ (t .sending).tx.next = none ∧ (t .sending).tx.keptNext = held := by decide

/-- R60: a part that is sending counts no recessive bit time. -/
theorem test_sending_counts_nothing :
    (({ running with tx := { running.tx with state := .sending } }).idleStep).rx.idleCount = 0 ∧
      running.idleStep.rx.idleCount = 1 := by decide

/-! ## The small station meets the invariants -/

theorem running_modeSound : ModeSound running := by constructor <;> decide

theorem running_txSound : TxSound running := by constructor <;> decide

theorem running_framesCurrent : FramesCurrent running := by
  constructor <;> simp [running, Transmitter.reset]

theorem running_pendingSound : PendingSound running := by
  constructor
  case reportTimers => decide
  case statusTimers => decide
  case answers => decide
  all_goals simp [running, Transmitter.reset]

theorem running_rxSound : RxSound running := by
  constructor
  case assembled => simp [running, State.reset, Receiver.reset, frameLength]
  case queued => simp [running, State.reset, Receiver.reset]
  case handled => simp [running, State.reset, Receiver.reset]
  all_goals decide

theorem running_clearShape : SectionShape clearSection := by constructor <;> decide

theorem running_settlingShape : SectionShape settlingSection := by constructor <;> decide

theorem running_disturbedShape : SectionShape disturbedSection := by constructor <;> decide

theorem running_occupiedShape : SectionShape occupiedSection := by constructor <;> decide

theorem running_provingShape : SectionShape provingSection := by constructor <;> decide

theorem running_directShape : SectionShape directSection := by constructor <;> decide

theorem running_localShape : SectionShape localSection := by constructor <;> decide

theorem running_sectionsKept : SectionsKept running where
  shape := by
    intro n sec h
    fin_cases n
    · exact (Option.some.inj h) ▸ running_clearShape
    · exact (Option.some.inj h) ▸ running_settlingShape
    · exact (Option.some.inj h) ▸ running_disturbedShape
    · exact (Option.some.inj h) ▸ running_occupiedShape
    · exact (Option.some.inj h) ▸ running_provingShape
    · exact (Option.some.inj h) ▸ running_directShape
    · exact (Option.some.inj h) ▸ running_localShape
    all_goals cases h
  disturbed := fun h => absurd rfl h
  none := by rintro (h | h) <;> cases h
  handed := by rintro (h | h) <;> cases h

theorem running_sectionsCurrent : SectionsCurrent running where
  current := by
    intro n sec h
    fin_cases n <;> first | (obtain rfl := Option.some.inj h; unfold State.termCurrent; decide) | cases h
  quiet := by decide

theorem running_balanceAgrees : BalanceAgrees running := by unfold BalanceAgrees; decide

theorem running_entry {m : EntryIndex} {e : MirrorEntry} (h : running.mirror.get m = some e) : m = 0 ∧ e = entry := by
  have h' : (if m = 0 then some entry else none) = some e := by simpa [running] using h
  split at h'
  · exact ⟨‹_›, (Option.some.inj h').symm⟩
  · cases h'

/-- A state with the sections, the mirror table and the routing of the small station, and no point faulted. -/
theorem attnSound_like {s : State} (mode : s.mode = .running) (config' : s.config = some config)
    (secs : s.sections.get 2 = some disturbedSection) (mirror : s.mirror = running.mirror) (low : s.attn0 = .active)
    (high : s.attn1 = .released) (sound : ∀ p, (s.records.get p).condition ≠ .faulted) : AttnSound s where
  attn0 := ⟨fun _ => .inr ⟨.sectionDisturbed, by rw [State.attnRouting, config']; decide,
    by rw [State.attnRouting, config']; decide, 2, disturbedSection, secs, rfl⟩, fun _ => low⟩
  attn1 := by
    refine iff_of_false (by rw [high]; decide) ?_
    rw [State.lineCalled, State.attnRouting, config', mode]
    rintro (h | ⟨c, enabled, selected, holds⟩)
    · cases h
    · cases c
      · exact absurd selected (by decide)
      · obtain ⟨p, -, h⟩ := holds; exact sound p h
      · exact absurd selected (by decide)
      · obtain ⟨m, e, h, stale⟩ := holds
        rw [mirror] at h
        exact stale quietView (by rw [(running_entry h).2]; rfl)

theorem running_attnSound : AttnSound running := attnSound_like rfl rfl rfl rfl rfl rfl (by decide)

theorem running_linesSound : LinesSound running := by
  constructor
  case toggling => unfold State.slotClear; decide
  all_goals decide

theorem quiet_channelSound : ChannelSound 3 Channel.reset := by constructor <;> decide

theorem running_pointsSound : PointsSound running where
  deb := by intro c h; cases h; decide
  dwell := by intro c h; cases h; decide
  resting := by decide
  unused := by unfold Channel.unused; decide
  channels := by
    intro p _
    fin_cases p <;> exact ⟨quiet_channelSound, quiet_channelSound⟩
  records := by
    intro p _
    fin_cases p <;> constructor <;> decide
  reference := by decide
  referenceFaulted := by decide

theorem running_mirrorSound : MirrorSound running where
  entries :=
    { foreign := by decide
      distinct := fun m k e he f hf _ _ => (running_entry he).1.trans (running_entry hf).1.symm }
  timed := by
    intro m e h
    rw [(running_entry h).2]
    exact ⟨fun _ => ⟨⟨quietView, rfl⟩, rfl⟩, fun _ => rfl⟩
  overtaken := by
    intro m e h
    rw [(running_entry h).2]
    exact fun o => nomatch o
  none := by rintro (h | h) <;> cases h
  handed := by intro h; cases h

/-! ## Witnesses: step and front end -/

theorem witness_IdleStepKeepsState :
    running.pending = [] ∧ ¬ (running.mode = .running ∧
      (running.tx.live = none ∧ running.tx.next ≠ none ∧ running.tx.state = .quiet ∨
        running.tx.next = none ∧ running.tx.entries ≠ [])) := by decide

/-- The small station as its report timer of point 0, its LISTENING timer and its idle count run out. -/
def runningOut : State :=
  { running with
    listeningTimer := { running := true, elapsed := 1199999 }
    tx := { running.tx with reportTimers := running.tx.reportTimers.set 0 { running := true, elapsed := 99999 } }
    rx := { running.rx with idleCount := 11 } }

theorem witness_IdleStepKeepsState_runsOut :
    runsOut 100000 (runningOut.tx.reportTimers.get 0) ∧ ¬ runsOut 100000 (runningOut.tx.reportTimers.get 1) ∧
      runsOut 1200000 runningOut.listeningTimer ∧ 12 ≤ runningOut.rx.idleCount + 1 ∧
      step runningOut = .next runningOut.idleStep ∧
      runningOut.idleStep.pending = [.listeningTimerExpiry, .reportTimerExpiry 0, .idleCompletion] := by
  refine ⟨by unfold runsOut; decide, by unfold runsOut; decide, by unfold runsOut; decide, by decide, rfl, by decide⟩

theorem witness_RawLevelFollowsThresholds :
    running.mode.listens = true ∧ running.pointConfig 0 = some pointCfg ∧ 25 ≤ td pointCfg .a ∧
      td pointCfg .a + 16 ≤ tr pointCfg .a ∧ tr pointCfg .a ≤ 999 ∧
      (resultOf (sweepOf 300 700) 0 .a).val ≤ td pointCfg .a ∧
      tr pointCfg .a ≤ (resultOf (sweepOf 340 700) 0 .a).val ∧
      td pointCfg .a < (resultOf (sweepOf 301 700) 0 .a).val ∧
      (resultOf (sweepOf 339 700) 0 .a).val < tr pointCfg .a ∧ (resultOf (sweepOf 23 700) 0 .a).val ≤ 23 ∧
      1001 ≤ (resultOf (sweepOf 1001 700) 0 .a).val := by decide

/-- Channel A of point 0 two sweeps into a damping run. -/
def damping : State := withA (fun c => { c with raw := .damped, run := 2 }) running

/-- Channel A of point 0 damped for a long time. -/
def damped (onset : Nat) : State := withA (fun c => { c with raw := .damped, filtered := .damped, onset := onset }) running

theorem witness_FilteredLevelAndOnsetAge_kept :
    let t := after (.sweepCompletion (sweepOf 700 700)) running
    running.mode.listens = true ∧ running.pointInUse 0 = true ∧
      (t.channel 0 .a).raw = (running.channel 0 .a).filtered ∧ (t.channel 0 .a).filtered = .free ∧
      (running.channel 0 .a).run < running.deb := by decide

theorem witness_FilteredLevelAndOnsetAge_changes :
    let t := after (.sweepCompletion (sweepOf 300 700)) damping
    damping.mode.listens = true ∧ damping.pointInUse 0 = true ∧
      (t.channel 0 .a).raw ≠ (damping.channel 0 .a).filtered ∧ (damping.channel 0 .a).run + 1 = damping.deb ∧
      (damping.channel 0 .a).filtered = .free ∧ (t.channel 0 .a).filtered = .damped := by decide

theorem witness_FilteredLevelAndOnsetAge_counts :
    let t := after (.sweepCompletion (sweepOf 300 700)) running
    (t.channel 0 .a).raw ≠ (running.channel 0 .a).filtered ∧ (running.channel 0 .a).run + 1 ≠ running.deb := by decide

theorem witness_FilteredLevelAndOnsetAge_ages :
    let s := damped 65535
    let t := after (.sweepCompletion (sweepOf 300 700)) s
    (s.channel 0 .a).filtered = .damped ∧ (t.channel 0 .a).filtered = .damped := by decide

theorem witness_FilteredLevelChangeCompletes :
    damping.mode.listens = true ∧ damping.pointConfig 0 = some pointCfg ∧
      (damping.channel 0 .a).run + 1 = damping.deb ∧
      classify (td pointCfg .a) (tr pointCfg .a) (resultOf (sweepOf 300 700) 0 .a) (damping.channel 0 .a).raw ≠
        (damping.channel 0 .a).filtered ∧
      (running.channel 0 .a).run + 1 ≠ running.deb := by decide

/-- Channel A of point 0 with this health and window counter. -/
def supervised (health : Health) (window : Nat) : State :=
  withA (fun c => { c with health := health, window := window }) running

theorem witness_ChannelSupervision_ok :
    running.mode.listens = true ∧ running.pointInUse 0 = true ∧ (running.channel 0 .a).health = .ok ∧
      inWindow (resultOf (sweepOf 24 700) 0 .a) ∧ inWindow (resultOf (sweepOf 1000 700) 0 .a) := by
  unfold inWindow; decide

theorem witness_ChannelSupervision_faults :
    let s := supervised .ok 49
    s.mode.listens = true ∧ s.pointInUse 0 = true ∧ (s.channel 0 .a).health = .ok ∧ (s.channel 0 .a).window + 1 = 50 ∧
      ¬ inWindow (resultOf (sweepOf 23 700) 0 .a) ∧ ¬ inWindow (resultOf (sweepOf 1001 700) 0 .a) := by
  unfold inWindow; decide

theorem witness_ChannelSupervision_counts :
    let s := supervised .ok 48
    (s.channel 0 .a).health = .ok ∧ (s.channel 0 .a).window + 1 ≠ 50 ∧
      ¬ inWindow (resultOf (sweepOf 23 700) 0 .a) := by unfold inWindow; decide

theorem witness_ChannelSupervision_recovers :
    let s := supervised .faulted 24999
    (s.channel 0 .a).health = .faulted ∧ (s.channel 0 .a).window + 1 = 25000 ∧
      inWindow (resultOf (sweepOf 24 700) 0 .a) ∧ ¬ inWindow (resultOf (sweepOf 23 700) 0 .a) := by
  unfold inWindow; decide

theorem witness_ChannelSupervision_waits :
    let s := supervised .faulted 24998
    (s.channel 0 .a).health = .faulted ∧ (s.channel 0 .a).window + 1 ≠ 25000 ∧
      inWindow (resultOf (sweepOf 1000 700) 0 .a) := by unfold inWindow; decide

/-- The reference with this health and window counter. -/
def withReference (health : Health) (window : Nat) : State :=
  { running with reference := { sample := none, health := health, window := window } }

/-- Results with this reference. -/
def referenceOf (a : Sample) : Results := { sweepOf 700 700 with reference := a }

theorem witness_ReferenceSupervision_ok :
    running.mode.listens = true ∧ running.reference.health = .ok ∧ inBand (referenceOf 496).reference ∧
      inBand (referenceOf 528).reference := by unfold inBand; decide

theorem witness_ReferenceSupervision_faults :
    (withReference .ok 49).mode.listens = true ∧ (withReference .ok 49).reference.health = .ok ∧
      (withReference .ok 49).reference.window + 1 = 50 ∧ ¬ inBand (referenceOf 495).reference ∧
      ¬ inBand (referenceOf 529).reference := by unfold inBand; decide

theorem witness_ReferenceSupervision_counts :
    (withReference .ok 48).reference.health = .ok ∧ (withReference .ok 48).reference.window + 1 ≠ 50 ∧
      ¬ inBand (referenceOf 495).reference := by unfold inBand; decide

theorem witness_ReferenceSupervision_recovers :
    (withReference .faulted 24999).reference.health = .faulted ∧
      (withReference .faulted 24999).reference.window + 1 = 25000 ∧ inBand (referenceOf 528).reference ∧
      ¬ inBand (referenceOf 529).reference := by unfold inBand; decide

theorem witness_ReferenceSupervision_waits :
    (withReference .faulted 24998).reference.health = .faulted ∧
      (withReference .faulted 24998).reference.window + 1 ≠ 25000 ∧ inBand (referenceOf 496).reference := by
  unfold inBand; decide

theorem witness_ChannelFaultCommands_faulted :
    let s := supervised .ok 49
    s.mode.listens = true ∧ s.pointInUse 0 = true ∧ (s.channel 0 .a).health = .ok ∧
      ¬ inWindow (resultOf (sweepOf 1001 700) 0 .a) ∧ (s.channel 0 .a).window = 49 ∧
      (s.records.get 0).condition = .normal := by unfold inWindow; decide

theorem witness_ChannelFaultCommands_blocked :
    let s := withRecord (fun r => { r with state := .blocked, condition := .disturbed }) (supervised .ok 49)
    (s.channel 0 .a).health = .ok ∧ ¬ inWindow (resultOf (sweepOf 23 700) 0 .a) ∧ (s.channel 0 .a).window = 49 ∧
      (s.records.get 0).condition ≠ .normal := by unfold inWindow; decide

theorem witness_ChannelFaultCommands_recovered :
    let s := supervised .faulted 24999
    s.mode.listens = true ∧ s.pointInUse 0 = true ∧ (s.channel 0 .a).health = .faulted ∧
      inWindow (resultOf (sweepOf 24 700) 0 .a) ∧ (s.channel 0 .a).window = 24999 := by unfold inWindow; decide

theorem witness_ReferenceFaultCommands :
    (withReference .ok 49).mode.listens = true ∧ (withReference .ok 49).reference.health = .ok ∧
      ¬ inBand (referenceOf 495).reference ∧ (withReference .ok 49).reference.window = 49 ∧
      (withReference .ok 49).pointInUse 0 = true ∧ ((withReference .ok 49).records.get 0).condition = .normal ∧
      (withReference .faulted 24999).mode.listens = true ∧
      (withReference .faulted 24999).reference.health = .faulted ∧ inBand (referenceOf 496).reference ∧
      (withReference .faulted 24999).reference.window = 24999 := by unfold inBand; decide

theorem witness_UnusedInputsHaveNoEffect :
    let r := sweepOf 300 700
    let q := { sweepOf 300 700 with a3 := 5, b3 := 1023 }
    r.reference = q.reference ∧ (∀ p, running.pointInUse p = true → sameInUse p r q) ∧
      running.pointInUse 3 = false ∧ r ≠ q := by unfold sameInUse; decide

/-! ## Witnesses: recognizers -/

/-- Point 0 in this state with these levels, which the next sweep confirms. -/
def atPair (state : RecognizerState) (a b : Level) : State :=
  withRecord (fun r => { r with state := state, lag := some 210 })
    (withB (fun c => { c with raw := b, filtered := b }) (withA (fun c => { c with raw := a, filtered := a }) running))

/-- A sample of this level. -/
def sampleOf : Level → Sample
  | .free => 700
  | .damped => 200

/-- Results that show these levels at point 0. -/
def levelsOf (a b : Level) : Results := sweepOf (sampleOf a) (sampleOf b)

theorem witness_PairTablesHold :
    ∀ row ∈ pairTable,
      let s := atPair row.source row.a row.b
      let t := after (.sweepCompletion (levelsOf row.a row.b)) s
      s.mode.listens = true ∧ s.pointInUse 0 = true ∧ (s.records.get 0).state = row.source ∧ healthy t 0 ∧
        (t.front.get 0).a.filtered = row.a ∧ (t.front.get 0).b.filtered = row.b := by unfold healthy; decide

theorem witness_PassagesAreCounted :
    let s := atPair .trailA .free .free
    let t := after (.sweepCompletion (levelsOf .free .free)) s
    s.mode.listens = true ∧ s.pointConfig 0 = some pointCfg ∧ (s.records.get 0).lag = some 210 ∧ healthy t 0 ∧
      (t.front.get 0).a.filtered = .free ∧ (t.front.get 0).b.filtered = .free ∧ (s.records.get 0).state = .trailA ∧
      (s.records.get 0).condition = .normal := by unfold healthy; decide

theorem witness_PassagesAreCounted_ba :
    let s := atPair .trailB .free .free
    let t := after (.sweepCompletion (levelsOf .free .free)) s
    (s.records.get 0).lag = some 210 ∧ healthy t 0 ∧ (t.front.get 0).a.filtered = .free ∧
      (t.front.get 0).b.filtered = .free ∧ (s.records.get 0).state = .trailB := by unfold healthy; decide

/-- Point 0 in TRAIL_A, both levels free, with this captured lag. -/
def trailing (lag : Nat) : State := withRecord (fun r => { r with lag := some lag }) (atPair .trailA .free .free)

/-- A lag of 56 sweeps at 140 mm is 450 km/h, which is vmax; one of 55 is 458. -/
theorem witness_PassagesAreCounted_overspeed :
    speedOf pointCfg.spacing 56 = 450 ∧ ¬ pointCfg.vmax < speedOf pointCfg.spacing 56 ∧
      speedOf pointCfg.spacing 55 = 458 ∧ pointCfg.vmax < speedOf pointCfg.spacing 55 ∧
      ((trailing 56).records.get 0).lag = some 56 ∧ ((trailing 55).records.get 0).lag = some 55 ∧
      ((after (.sweepCompletion (levelsOf .free .free)) (trailing 56)).records.get 0).serial = 0 ∧
      ((after (.sweepCompletion (levelsOf .free .free)) (trailing 55)).records.get 0).serial = 1 := by decide

theorem witness_CountsChangeOnlyAtPassages :
    let s := atPair .trailA .free .free
    let t := after (.sweepCompletion (levelsOf .free .free)) s
    exec (.sweepCompletion (levelsOf .free .free)) s = .next t ∧
      (t.records.get 0).nAB ≠ (s.records.get 0).nAB := ⟨rfl, by decide⟩

theorem witness_CountsChangeOnlyAtPassages_reset :
    let s := withRecord (fun r => { r with nAB := 1 }) running
    exec (.resetAssertion 2) s = .next (after (.resetAssertion 2) s) ∧
      ((after (.resetAssertion 2) s).records.get 0).nAB ≠ (s.records.get 0).nAB := ⟨rfl, by decide⟩

theorem witness_ConditionHeadAndSerial_idle :
    running.mode.listens = true ∧ running.pointInUse 0 = true ∧
      ((after (.sweepCompletion (sweepOf 700 700)) running).records.get 0).state = .idle := by decide

theorem witness_ConditionHeadAndSerial_passage :
    inPassage ((after (.sweepCompletion (sweepOf 300 700)) damping).records.get 0).state := by
  unfold inPassage; decide

theorem witness_ConditionHeadAndSerial_blocks :
    let s := supervised .ok 49
    let t := after (.sweepCompletion (sweepOf 1001 700)) s
    (t.records.get 0).state = .blocked ∧ (s.records.get 0).condition = .normal ∧
      (t.records.get 0).condition ≠ .normal := by decide

theorem witness_ConditionHeadAndSerial_blocked :
    let s := withRecord (fun r => { r with state := .blocked, condition := .disturbed }) running
    (s.records.get 0).condition ≠ .normal ∧ (s.records.get 0).state = .blocked := by decide

/-- A counted passage at exactly vmax keeps the serial. -/
theorem witness_ConditionHeadAndSerial_kept :
    let s := trailing 56
    let t := after (.sweepCompletion (levelsOf .free .free)) s
    s.mode.listens = true ∧ s.pointConfig 0 = some pointCfg ∧ (s.records.get 0).condition = .normal ∧
      (t.records.get 0).condition = .normal ∧ (t.records.get 0).state = .idle ∧
      ∀ lag, (s.records.get 0).lag = some lag → ¬ pointCfg.vmax < speedOf pointCfg.spacing lag :=
  ⟨by decide, by decide, by decide, by decide, by decide, fun lag h => by
    obtain rfl : 56 = lag := Option.some.inj h
    decide⟩

/-- Point 0 in BLOCKED with this dwell count. -/
def dwelling (dwell : Nat) : State :=
  withRecord (fun r => { r with state := .blocked, condition := .disturbed, dwell := dwell }) running

theorem witness_BlockedAndDwell_fault :
    let s := supervised .ok 49
    let t := after (.sweepCompletion (sweepOf 1001 700)) s
    s.mode.listens = true ∧ s.pointInUse 0 = true ∧ (s.records.get 0).state ≠ .blocked ∧ ¬ healthy t 0 := by
  unfold healthy; decide

theorem witness_BlockedAndDwell_restart :
    let s := withA (fun c => { c with raw := .damped, run := 2 }) (dwelling 4998)
    let t := after (.sweepCompletion (sweepOf 300 700)) s
    (s.records.get 0).state = .blocked ∧
      ¬ (healthy t 0 ∧ (t.front.get 0).a.filtered = .free ∧ (t.front.get 0).b.filtered = .free) := by
  unfold healthy; decide

theorem witness_BlockedAndDwell_counts :
    let s := dwelling 4998
    let t := after (.sweepCompletion (sweepOf 700 700)) s
    (s.records.get 0).state = .blocked ∧ healthy t 0 ∧ (t.front.get 0).a.filtered = .free ∧
      (t.front.get 0).b.filtered = .free ∧ (s.records.get 0).dwell + 1 ≠ s.dwellLength := by unfold healthy; decide

theorem witness_DwellEndCompletes :
    let s := dwelling 4999
    let f := s.sweepFront (sweepOf 700 700)
    s.mode.listens = true ∧ s.config = some config ∧ s.pointInUse 0 = true ∧ (s.records.get 0).state = .blocked ∧
      healthy f 0 ∧ (f.front.get 0).a.filtered = .free ∧ (f.front.get 0).b.filtered = .free ∧
      (s.records.get 0).dwell + 1 = 5000 * config.dwellCode := by unfold healthy; decide

theorem witness_SweepFrame : State.reset.mode.listens = false ∧ running.tx.state ≠ .waiting := by decide

/-- The wheel that the completion brings to point 0 reaches slot 0 through that point alone, and slot 1 not at all. -/
theorem witness_SweepFrame_sections :
    let t := after (.sweepCompletion (sweepOf 300 700)) damping
    damping.sections.get 0 = some clearSection ∧ recordChanged (damping.records.get 0) (t.records.get 0) ∧
      clearSection.uses (.localPoint 0) = true ∧
      (∀ q, q ≠ 0 → ¬ recordChanged (damping.records.get q) (t.records.get q)) ∧
      damping.sections.get 1 = some settlingSection ∧ settlingSection.uses (.localPoint 0) = false := by
  unfold recordChanged; decide

/-! ## Witnesses: transmitter -/

/-- Station 4 in LISTENING with no section. -/
def listening : State :=
  { State.reset with mode := .listening, station := some 4, config := some config, listeningTimer := .started }

theorem listening_invariants :
    SectionsKept listening ∧ PendingSound listening ∧ TxSound listening ∧ FramesCurrent listening := by
  refine ⟨⟨?_, ?_, ?_, ?_⟩, ?_, by constructor <;> decide,
    by constructor <;> simp [listening, State.reset, Transmitter.reset]⟩
  · intro n sec h; simp [listening, State.reset] at h
  · intro _ n sec h; simp [listening, State.reset] at h
  · rintro (h | h) <;> cases h
  · rintro (h | h) <;> cases h
  · constructor
    case reportTimers => decide
    case statusTimers => decide
    case answers => decide
    all_goals simp [listening, State.reset, Transmitter.reset]

theorem witness_PointChangeIsReported :
    SectionsKept running ∧ PendingSound running ∧ TxSound running ∧ FramesCurrent running ∧ running.mode = .running :=
  ⟨running_sectionsKept, running_pendingSound, running_txSound, running_framesCurrent, rfl⟩

theorem witness_PointChangeIsReported_changed :
    pointChanged (damping.records.get 0) ((after (.sweepCompletion (sweepOf 300 700)) damping).records.get 0) = true := by
  decide

theorem witness_PointChangeIsReported_section :
    sectionMoved (damping.sections.get 0) ((after (.sweepCompletion (sweepOf 300 700)) damping).sections.get 0) :=
  ⟨clearSection, { clearSection with state := .occupied }, rfl, by decide, .inl (by decide)⟩

theorem witness_PointChangeIsReported_listening : listening.mode = .listening := rfl

/-- The frame of an entry in a layer, as the small station builds it. -/
def layered (e : Entry) : Option LayerFrame := (running.buildFrame e).map fun f => { entry := e, frame := f }

/-- The small station with this next layer and these entries. -/
def sending (next : Option LayerFrame) (entries : List Entry) : State :=
  running.withTx { running.tx with next := next, entries := entries, nextPlace := 9 }

theorem not_heldUnstarted {tx : Transmitter} {kind : EntryKind} (quiet : tx.state = .quiet)
    (other : ∀ lf, tx.next = some lf → lf.entry.kind ≠ kind) : ¬ heldUnstarted tx kind := by
  rintro ⟨lf, rfl, h | ⟨h, _⟩⟩
  · exact other lf h rfl
  · rw [quiet] at h; cases h

theorem witness_ReportTimerExpiryCompletes_pending :
    let s := sending none [⟨.report 0, 3, 0⟩]
    s.mode = .running ∧ (s.tx.reportTimers.get 0).running = true ∧ notPreempted s.tx 5 ∧
      (∃ e ∈ s.tx.entries, e.kind = .report 0) ∧ ¬ heldUnstarted s.tx (.report 0) :=
  ⟨rfl, by decide, by unfold notPreempted nextIsLowest; decide, by decide, not_heldUnstarted rfl (by intro _ h; cases h)⟩

theorem witness_ReportTimerExpiryCompletes_held :
    let s := sending (layered ⟨.report 0, 3, 0⟩) []
    (s.tx.reportTimers.get 0).running = true ∧ notPreempted s.tx 5 ∧ heldUnstarted s.tx (.report 0) :=
  ⟨by decide, by unfold notPreempted nextIsLowest; decide, ⟨_, rfl, .inl rfl⟩⟩

theorem witness_ReportTimerExpiryCompletes_appends :
    (running.tx.reportTimers.get 0).running = true ∧ notPreempted running.tx 5 ∧
      (∀ e ∈ running.tx.entries, e.kind ≠ .report 0) ∧ ¬ heldUnstarted running.tx (.report 0) :=
  ⟨by decide, by unfold notPreempted nextIsLowest; decide, by decide, not_heldUnstarted rfl (by intro _ h; cases h)⟩

theorem witness_ReportTimerExpiryCompletes_preempts :
    let s := sending (layered ⟨.status 2, 6, 0⟩) [⟨.status 3, 6, 1⟩]
    (∀ e ∈ s.tx.entries, e.kind ≠ .report 0 ∧ 5 < e.cls) ∧ ¬ heldUnstarted s.tx (.report 0) ∧
      (∃ lf, s.tx.next = some lf ∧ lf.entry.kind = .status 2 ∧ 5 < lf.entry.cls) ∧
      ∀ e ∈ s.tx.entries, keyOf e.kind ≠ keyOf (.status 2) :=
  ⟨by decide, not_heldUnstarted rfl (by intro _ h; cases h; decide), ⟨_, rfl, rfl, by decide⟩, by decide⟩

theorem not_roundGone_status (s : State) (n : Slot) : ¬ roundGone s (.status n) := by rintro ⟨_, _, _, h, -⟩; cases h

/-- A returning status finds a pending one of its slot; the lower class and the earlier place come one from each. -/
theorem witness_ReportTimerExpiryCompletes_merges :
    let lf : LayerFrame := ⟨⟨.status 2, 6, 4⟩, .restoreCommand 4 7 2 false 0⟩
    let g : Entry := ⟨.status 2, 7, 1⟩
    let s := sending (some lf) [g, ⟨.status 3, 6, 2⟩]
    (∀ e ∈ s.tx.entries, e.kind ≠ .report 0 ∧ 5 < e.cls) ∧ ¬ heldUnstarted s.tx (.report 0) ∧ 5 < lf.entry.cls ∧
      ¬ roundGone s lf.entry.kind ∧ g ∈ s.tx.entries ∧
      (∀ h ∈ s.tx.entries, keyOf h.kind = keyOf lf.entry.kind ↔ h = g) ∧
      (after (.reportTimerExpiry 0) s).tx.entries = [⟨.status 2, 6, 1⟩, ⟨.status 3, 6, 2⟩] :=
  ⟨by decide, not_heldUnstarted rfl (by intro _ h; cases h; decide), by decide, not_roundGone_status _ _, by decide,
    by decide, by decide⟩

/-- R67: a returning answer takes the tag of the pending answer of its key. -/
theorem test_returning_answer_takes_the_later_tag :
    let s := sending (layered ⟨.answer 7 1 0 5, 7, 0⟩) [⟨.answer 7 1 0 6, 7, 3⟩]
    (after (.reportTimerExpiry 0) s).tx.entries = [⟨.answer 7 1 0 6, 7, 0⟩] := by decide

/-- A WAITING report of point 0, a class-6 status in the next layer and another pending. -/
def behind : State :=
  let s := sending (layered ⟨.status 2, 6, 1⟩) [⟨.status 3, 6, 2⟩]
  s.withTx { s.tx with state := .waiting, live := layered ⟨.report 0, 5, 0⟩ }

theorem witness_ReportTimerExpiryCompletes_waiting :
    behind.mode = .running ∧ (behind.tx.reportTimers.get 0).running = true ∧ nextIsLowest behind.tx ∧
      heldUnstarted behind.tx (.report 0) ∧ (∃ lf, behind.tx.next = some lf ∧ lf.entry.cls = 6) :=
  ⟨rfl, by decide, by unfold nextIsLowest; decide, ⟨_, rfl, .inr ⟨rfl, rfl⟩⟩, _, rfl, rfl⟩

/-- A class-3 report preempts the class-6 status of slot 2 at the expiry of the report timer of point 1. -/
theorem witness_ReportTimerExpiryCompletes_any :
    let s := sending (layered ⟨.status 2, 6, 0⟩) [⟨.report 0, 3, 1⟩]
    ¬ nextIsLowest s.tx ∧ (s.tx.reportTimers.get 1).running = true ∧
      ((after (.reportTimerExpiry 1) s).tx.next.map fun lf => lf.entry.kind) = some (.report 0) := by
  unfold nextIsLowest; decide

theorem witness_StatusTimerExpiryCompletes_any :
    behind.mode = .running ∧ (behind.tx.statusTimers.get 4).running = true ∧ (behind.sections.get 4).isSome = true ∧
      nextIsLowest behind.tx := ⟨rfl, by decide, by decide, by unfold nextIsLowest; decide⟩

theorem witness_StatusTimerExpiryCompletes_pending :
    let s := sending none [⟨.status 0, 4, 0⟩]
    s.mode = .running ∧ (s.tx.statusTimers.get 0).running = true ∧ notPreempted s.tx 6 ∧
      (∃ e ∈ s.tx.entries, e.kind = .status 0) ∧ ¬ heldUnstarted s.tx (.status 0) :=
  ⟨rfl, by decide, by unfold notPreempted nextIsLowest; decide, by decide, not_heldUnstarted rfl (by intro _ h; cases h)⟩

theorem witness_StatusTimerExpiryCompletes_held :
    let s := sending (layered ⟨.status 0, 6, 0⟩) []
    (s.tx.statusTimers.get 0).running = true ∧ notPreempted s.tx 6 ∧ heldUnstarted s.tx (.status 0) :=
  ⟨by decide, by unfold notPreempted nextIsLowest; decide, ⟨_, rfl, .inl rfl⟩⟩

theorem witness_StatusTimerExpiryCompletes_appends :
    (running.tx.statusTimers.get 0).running = true ∧ notPreempted running.tx 6 ∧
      (∀ e ∈ running.tx.entries, e.kind ≠ .status 0) ∧ ¬ heldUnstarted running.tx (.status 0) :=
  ⟨by decide, by unfold notPreempted nextIsLowest; decide, by decide, not_heldUnstarted rfl (by intro _ h; cases h)⟩

theorem witness_NextLayerLoadCompletes :
    let e : Entry := ⟨.report 0, 3, 1⟩
    let s := sending none ([⟨.status 0, 6, 0⟩] ++ e :: [⟨.report 1, 3, 2⟩])
    s.mode = .running ∧ s.tx.next = none ∧ s.tx.entries = [⟨.status 0, 6, 0⟩] ++ e :: [⟨.report 1, 3, 2⟩] ∧
      (∀ g ∈ [(⟨.status 0, 6, 0⟩ : Entry)], e.cls < g.cls) ∧
      (∀ g ∈ [(⟨.report 1, 3, 2⟩ : Entry)], e.cls ≤ g.cls ∧ g ≠ e) ∧ ∃ f, s.buildFrame e = some f :=
  ⟨rfl, rfl, rfl, by decide, by decide, _, rfl⟩

/-- An entry of each kind, built; and one of each that names a slot not in use. -/
theorem witness_NextLayerLoadCompletes_built :
    let s := sending none []
    s.station = some 4 ∧
      (∀ e ∈ [(⟨.report 0, 3, 0⟩ : Entry), ⟨.report 0, 5, 0⟩, ⟨.answer 7 1 0 5, 1, 0⟩, ⟨.status 1, 4, 0⟩,
          ⟨.status 1, 6, 0⟩, ⟨.request 1 0 0, 2, 0⟩],
        (s.buildFrame e).isSome = true) ∧
      EntryKind.mayHold (.report 0) 5 ∧ EntryKind.mayHold (.answer 7 1 0 5) 1 ∧ EntryKind.mayHold (.status 1) 6 ∧
      EntryKind.mayHold (.request 1 0 0) 2 ∧ s.sections.get 7 = none ∧ s.buildFrame ⟨.status 7, 4, 0⟩ = none ∧
      s.buildFrame ⟨.request 7 0 0, 2, 0⟩ = none := by
  unfold EntryKind.mayHold; decide

/-- R48, R51, R134: the fields of the frames of a point with a last passage, and of a request. -/
theorem test_built_fields :
    let r : PointRecord := { PointRecord.reset with nAB := 258, nBA := 3, serial := 9, last := some ⟨.ba, 88⟩ }
    let s := { running with
      records := running.records.set 0 r, tx := { running.tx with startCounters := running.tx.startCounters.set 0 0 } }
    let c : PointContent :=
      { point := 0, head := .free, start := false, condition := .normal, last := some .ba, serial := 9, nAB := 258, nBA := 3 }
    s.buildFrame ⟨.report 0, 5, 0⟩ = some (.countReport 4 false c (some 88)) ∧
      s.buildFrame ⟨.answer 7 1 0 5, 1, 0⟩ = some (.settleAnswer 4 7 1 5 c) ∧
      s.buildFrame ⟨.request 1 0 6, 2, 0⟩ = some (.settleRequest 4 1 6 [(7, 0)]) := by decide

theorem witness_MoveAndIdleComplete :
    let s := sending (layered ⟨.report 0, 3, 0⟩) []
    s.mode = .running ∧ s.tx.live = none ∧ (∃ lf, s.tx.next = some lf) ∧ s.tx.state = .quiet ∧
      s.mode.listens = true ∧ s.rx.inCharacter = false := ⟨rfl, rfl, ⟨_, rfl⟩, rfl, rfl, rfl⟩

/-- A COUNT REPORT of point 0 in the live layer, in this transmitter state and with this failure count. -/
def live (state : TxState) (failures : Nat) : State :=
  running.withTx { running.tx with state := state, failures := failures, live := layered ⟨.report 0, 3, 0⟩ }

/-- The frame in the live layer of `live`. -/
def liveFrame : LayerFrame :=
  { entry := ⟨.report 0, 3, 0⟩, frame := .countReport 4 true (running.pointContent 0) none }

theorem live_frame (state : TxState) (failures : Nat) : (live state failures).tx.live = some liveFrame := rfl

/-- The nine bits of an arbitration byte, read back steadily: class 3 of station 4 is 64h. -/
def readBack (byte : Byte) : List BitSamples := steady false :: (bitsOf byte).map steady

theorem witness_ArbitrationCompletes :
    let s := live .arbitrating 0
    s.mode = .running ∧ s.tx.state = .arbitrating ∧ s.tx.live = some liveFrame ∧
      (∀ i : Fin 9, (readBack 0x64)[i.val]?.map bitValue = some (arbitrationBit liveFrame.frame i.val)) ∧
      (readBack 0x24)[2]?.map bitValue = some (!arbitrationBit liveFrame.frame 2) := by decide

theorem witness_ArbitrationCompletes_lost :
    let sent := fun bit : Nat => (32 * liveFrame.frame.cls + liveFrame.frame.source.toNat).testBit bit
    sent 6 = true ∧ sent 7 = false ∧ sent 2 = true ∧ sent 0 = false ∧ bitValue (steady false) = false ∧
      bitValue (steady true) = true := by decide

theorem witness_BitErrorCompletes_arbitrating :
    let s := live .arbitrating 14
    s.mode = .running ∧ s.tx.live = some liveFrame ∧ s.tx.failures + 1 < 16 ∧
      wrongBit s.tx liveFrame 0 (steady true) ∧ wrongBit s.tx liveFrame 8 (steady true) := by
  unfold wrongBit; decide

theorem witness_BitErrorCompletes_sending :
    let s := live .sending 14
    s.mode = .running ∧ s.tx.live = some liveFrame ∧ s.tx.failures + 1 < 16 ∧
      wrongBit s.tx liveFrame 9 (steady false) ∧ wrongBit s.tx liveFrame 10 (steady true) ∧
      wrongBit s.tx liveFrame 119 (steady false) := by unfold wrongBit; decide

theorem witness_BitErrorCompletes_none :
    ¬ wrongBit (live .arbitrating 14).tx liveFrame 2 (steady false) ∧
      ¬ wrongBit (live .arbitrating 14).tx liveFrame 9 (steady false) ∧
      ¬ wrongBit (live .sending 14).tx liveFrame 8 (steady true) ∧
      ¬ wrongBit (live .sending 14).tx liveFrame 120 (steady true) ∧
      ¬ wrongBit (live .sending 14).tx liveFrame 9 (steady true) := by unfold wrongBit; decide

/-- R57: a dominant sample by itself is not seen by the read-back. -/
theorem witness_BitErrorCompletes_pulse :
    ¬ wrongBit (live .sending 14).tx liveFrame 9 { steady true with s8 := .dominant } ∧
      wrongBit (live .sending 14).tx liveFrame 9 { steady true with s8 := .dominant, s9 := .dominant } := by
  unfold wrongBit; decide

/-- A part in HALTED that finishes its frame. -/
def finishingHalted : State := { live .sending 3 with mode := .halted }

theorem witness_BitErrorCompletes_halted :
    finishingHalted.tx.live = some liveFrame ∧ finishingHalted.mode = .halted ∧ finishingHalted.tx.state = .sending ∧
      wrongBit finishingHalted.tx liveFrame 9 (steady false) := by unfold wrongBit; decide

theorem witness_MuteCompletes :
    (live .arbitrating 15).mode = .running ∧ (live .arbitrating 15).tx.live = some liveFrame ∧
      (live .arbitrating 15).tx.failures = 15 ∧ wrongBit (live .arbitrating 15).tx liveFrame 0 (steady true) ∧
      (live .sending 15).tx.failures = 15 ∧ wrongBit (live .sending 15).tx liveFrame 9 (steady false) := by
  unfold wrongBit; decide

/-- SENDING with this START counter of point 0 and a report of point 0 in the next layer. -/
def finishing (left : Nat) : State :=
  let s := live .sending 0
  s.withTx { s.tx with
    next := layered ⟨.report 0, 5, 1⟩, startCounters := s.tx.startCounters.set 0 left }

theorem witness_FrameCompletionCompletes :
    (finishing 1).tx.state = .sending ∧ (finishing 1).tx.live = some liveFrame ∧ (finishing 1).mode = .running ∧
      liveFrame.frame.startPoint = some 0 ∧ (finishing 1).tx.startCounters.get 0 = 1 ∧
      (finishing 2).tx.startCounters.get 0 ≠ 1 ∧ bitValue (steady true) = true ∧ bitValue (steady false) = false := by
  decide

theorem witness_FrameCompletionCompletes_next :
    ∃ g, (after (.frameCompletion (steady true)) (finishing 1)).tx.next = some g ∧ g.entry.kind.carriesPoint 0 = true :=
  ⟨_, rfl, rfl⟩

/-- A frame of another point, and one of no point, in the next layer as the START counter reaches 0. -/
theorem witness_FrameCompletionCompletes_other :
    ∀ e ∈ [(⟨.report 1, 5, 1⟩ : Entry), ⟨.status 1, 6, 1⟩],
      let s := (finishing 1).withTx { (finishing 1).tx with next := layered e }
      s.tx.next.isSome = true ∧ e.kind.carriesPoint 0 = false ∧
        (after (.frameCompletion (steady true)) s).tx.next = s.tx.next := by decide

theorem witness_FieldLineIsDriven_arbitrating :
    let s := live .arbitrating 0
    s.tx.state = .arbitrating ∧ s.tx.live = some liveFrame ∧ s.tx.drives 0 = .dominant ∧ s.tx.drives 2 = .recessive ∧
      s.tx.drives 9 = .recessive := by decide

theorem witness_FieldLineIsDriven_sending :
    let s := live .sending 0
    s.tx.state = .sending ∧ s.tx.live = some liveFrame ∧ liveFrame.frame.encode[1]? = some 8#8 ∧
      (liveFrame.frame.encode[11]?).isSome = true ∧ s.tx.drives 8 = .recessive ∧ s.tx.drives 10 = .dominant ∧
      s.tx.drives 119 = .recessive := by decide

theorem witness_FieldLineIsDriven_sound : TxSound (live .sending 0) := by constructor <;> decide

theorem witness_FieldLineIsDriven_quiet :
    running.tx.state ≠ .arbitrating ∧ running.tx.state ≠ .sending := by decide

/-- R176: 03h and 00h, most significant bit first. -/
theorem test_readRequest :
    readRequest = [false, false, false, false, false, false, true, true, false, false, false, false, false, false,
      false, false] := by decide

/-! ## Witnesses: frames -/

/-- The content of a quiet point 1 with large counts. -/
def content : PointContent :=
  { point := 1, head := .wheelOn, start := false, condition := .normal, last := some .ba, serial := 255, nAB := 65535
    nBA := 256 }

/-- A SECTION STATUS at the ends of its ranges. -/
def statusOf : StatusContent :=
  { slot := 7, state := .proving, number := 4095, balance := some 1023, cause := none, restoreSerial := some 255
    restoreOutcome := .accepted }

theorem witness_FrameLayouts :
    buildable (.countReport 31 true content (some 999)) ∧ buildable (.countReport 31 false content none) ∧
      buildable (.settleAnswer 31 1 7 255 content) ∧ buildable (.sectionStatus 31 false statusOf) ∧
      buildable (.settleRequest 31 7 255 [(1, 3)]) ∧ buildable (.settleRequest 31 7 255 (List.replicate 4 (31, 3))) ∧
      buildable (.restoreCommand 31 1 7 true 255) := by unfold buildable; decide

theorem witness_ReadingUndoesBuilding : buildable (.countReport 31 true content (some 999)) := by
  unfold buildable; decide

theorem witness_WholeFrameIsReceived :
    let s := running.withRx { running.rx with idleCount := 12 }
    let f := Frame.countReport 7 true content (some 999)
    buildable f ∧ s.mode.listens = true ∧ s.station ≠ some f.source ∧ s.rx.assembling = false ∧
      s.rx.inCharacter = false ∧ s.rx.idleCount = 12 ∧ s.rx.handling = none ∧ s.rx.fifo = [] := by
  unfold buildable; decide

/-! ## Witnesses: receiver -/

/-- A bit of these samples. -/
def bit (s6 s7 s8 s9 s10 : LineLevel) : BitSamples := { s6 := s6, s7 := s7, s8 := s8, s9 := s9, s10 := s10 }

theorem witness_StartBitCompletes :
    running.mode.listens = true ∧ running.rx.inCharacter = false ∧
      bitValue (bit .recessive .dominant .dominant .recessive .recessive) = false ∧
      bitValue (bit .recessive .recessive .dominant .dominant .recessive) = false ∧
      bitValue (bit .dominant .dominant .recessive .dominant .dominant) = false ∧
      bitValue (bit .dominant .dominant .recessive .dominant .recessive) = true := by decide

/-- A level of one sample is nothing; one of two begins a bit time. -/
theorem witness_StartBitCompletes_length :
    exec (.startBit 1 (steady false)) running = .next running ∧
      (after (.startBit 2 (steady false)) running).rx.inCharacter = true := ⟨rfl, by decide⟩

/-- The receiver within a character, with this much of a frame. -/
def receiving (assembling : Bool) (buffer : List Byte) : State :=
  running.withRx { running.rx with assembling := assembling, inCharacter := true, buffer := buffer }

/-- The data bits of a byte, sampled steadily. -/
def dataOf (b : Byte) : List BitSamples := (bitsOf b).map steady

theorem witness_CharactersComplete :
    (receiving true []).mode.listens = true ∧ (receiving true []).rx.inCharacter = true ∧ reads (dataOf 3) 3 ∧
      reads (dataOf 9) 9 ∧ reads (dataOf 2) 2 ∧ reads (dataOf 10) 10 ∧ (receiving false []).rx.assembling = false ∧
      (receiving true [0x67]).rx.buffer = [0x67] := by unfold reads; decide

theorem witness_CharactersComplete_body :
    let s := receiving true [0x67, 8, 1]
    s.rx.assembling = true ∧ s.rx.buffer = 0x67 :: 8 :: [1] ∧ ([1] : List Byte).length + 3 ≠ (8 : Byte).toNat + 4 ∧
      bitValue (steady false) = false ∧ bitValue (steady true) = true := by decide

/-- A frame of a station whose last byte is now coming in. -/
def completing (f : Frame) : State := receiving true (f.encode.dropLast)

/-- Its last byte. -/
def lastByte (f : Frame) : Byte := f.encode.getLast?.getD 0

/-- A RESTORE COMMAND from this station. -/
def command (source : Station) : Frame := .restoreCommand source 4 0 true 5

theorem witness_FrameCompleteOutcomes_shape :
    let s := completing (command 30)
    s.mode.listens = true ∧ s.rx.inCharacter = true ∧ s.rx.assembling = true ∧
      reads (dataOf (lastByte (command 30))) (lastByte (command 30)) ∧
      ∃ rest, s.rx.buffer = 0x1E :: 3 :: rest ∧ rest.length + 3 = (3 : Byte).toNat + 4 :=
  ⟨rfl, rfl, rfl, by unfold reads; decide, _, rfl, rfl⟩

theorem witness_FrameCompleteOutcomes_long :
    let f := Frame.settleAnswer 7 4 0 0 content
    ∃ rest, (completing f).rx.buffer = 0x27 :: 9 :: rest ∧ rest.length + 3 = (9 : Byte).toNat + 4 := ⟨_, rfl, rfl⟩

theorem witness_FrameCompleteOutcomes_bad :
    crc ((completing (command 30)).rx.buffer ++ [lastByte (command 30) + 1]) ≠ 0#16 := by decide

theorem witness_FrameCompleteOutcomes_own :
    let s := (completing liveFrame.frame).withTx (live .sending 0).tx
    crc (s.rx.buffer ++ [lastByte liveFrame.frame]) = 0#16 ∧ s.station = some ((0x64 : Byte).extractLsb' 0 5) ∧
      s.rx.buffer.head? = some 0x64 ∧ s.tx.state = .sending ∧ s.tx.live = some liveFrame ∧
      liveFrame.frame.encode = s.rx.buffer ++ [lastByte liveFrame.frame] := by decide

theorem witness_FrameCompleteOutcomes_clash :
    let s := completing (command 4)
    crc (s.rx.buffer ++ [lastByte (command 4)]) = 0#16 ∧ s.station = some ((0x04 : Byte).extractLsb' 0 5) ∧
      s.rx.buffer.head? = some 0x04 ∧ s.tx.state ≠ .sending ∧
      s.rx.sent ≠ some (s.rx.buffer ++ [lastByte (command 4)]) := by decide

/-- The FIFO holds this many frames behind one being handled. -/
def queued (waiting : Nat) (s : State) : State :=
  s.withRx { s.rx with
    handling := some (command 31).encode, fifo := List.replicate waiting (command 31).encode }

theorem witness_FrameCompleteOutcomes_admitted :
    let s := completing (command 30)
    crc (s.rx.buffer ++ [lastByte (command 30)]) = 0#16 ∧ s.station ≠ some ((0x1E : Byte).extractLsb' 0 5) ∧
      s.rx.handling = none ∧ s.rx.fifo = [] ∧ (queued 1 s).rx.handling.isSome = true ∧
      (queued 1 s).rx.fifo.length < 2 ∧ (queued 2 s).rx.fifo.length = 2 := by decide

/-! ## Witnesses: frame handler -/

theorem witness_InvalidFramesAreRefused :
    (0xFF : Byte).toNat / 32 = 7 ∧ (0x60 : Byte).toNat % 32 = 0 ∧ (0x1F : Byte).toNat / 32 = 0 ∧
      ([1, 2] : List Byte).length ≠ 3 ∧ (0x3F : Byte).toNat / 32 = 1 ∧ ([1, 2] : List Byte).length ≠ 9 ∧
      (0x5F : Byte).toNat / 32 = 2 ∧ ([0x21] : List Byte).length < 2 ∧ (0x7F : Byte).toNat / 32 = 3 ∧
      (0xBF : Byte).toNat / 32 = 5 ∧ ([1, 2] : List Byte).length ≠ 8 ∧ (0x9F : Byte).toNat / 32 = 4 ∧
      (0xDF : Byte).toNat / 32 = 6 := by decide

theorem witness_InvalidFramesAreRefused_fields :
    ([0, 0, 5] : List Byte) = 0 :: [0, 5] ∧ (0 : Byte).toNat % 32 = 0 ∧ (0x0C : Byte).toNat / 4 % 4 = 3 ∧
      (0x03 : Byte).toNat % 4 = 3 ∧ (0x08 : Byte).toNat % 8 = 0 ∧ 4 < (0x05 : Byte).toNat % 8 ∧
      ([0x02, 0, 0x1C] : List Byte).length ≠ 2 + (0x02 : Byte).toNat % 8 ∧ (0x80 : Byte).toNat / 4 % 32 = 0 ∧
      999 < word 0x03 0xE8 ∧ word 0x03 0xE8 ≠ 65535 ∧ 999 < word 0xFF 0xFE ∧ word 0xFF 0xFE ≠ 65535 := by decide

/-- Frames whose bits marked 0 are all set: each clause of the reading half. -/
theorem witness_InvalidFramesAreRefused_read :
    (0x1E : Byte).toNat % 32 = (30 : Station).toNat ∧ (0x1E : Byte).toNat / 32 = 0 ∧
      (0xE4 : Byte).toNat % 32 = (4 : Station).toNat ∧ (0xDF : Byte).toNat / 32 = (6 : Slot).val ∧
      (0x27 : Byte).toNat % 32 = (7 : Station).toNat ∧ (0x27 : Byte).toNat / 32 = 1 ∧
      (0xF9 : Byte).toNat % 8 = (1 : Slot).val ∧
      pointRead 0x00 5 (word 1 2) (word 0 0)
        { point := 0, head := .free, start := false, condition := .normal, last := none, serial := 5, nAB := 0x102
          nBA := 0 } ∧
      (0x47 : Byte).toNat / 32 = 2 ∧ (0x39 : Byte).toNat / 32 = (1 : Slot).val ∧
      (0x39 : Byte).toNat % 8 = ([(4, 1)] : List (Station × PointIndex)).length ∧
      (∀ p ∈ ([(4, 1)] : List (Station × PointIndex)), p.1 ≠ 0) ∧
      ([0x91] : List Byte).map (fun b => (b.toNat / 4 % 32, b.toNat % 4)) =
        ([(4, 1)] : List (Station × PointIndex)).map (fun p => (p.1.toNat, p.2.val)) ∧
      (0x67 : Byte).toNat / 32 = 3 ∧ (0xA7 : Byte).toNat / 32 = 5 ∧ word 0x03 0xE7 ≤ 999 ∧ word 0xFF 0xFF = 65535 ∧
      (0x87 : Byte).toNat / 32 = 4 ∧ (0xC7 : Byte).toNat / 32 = 6 := by
  unfold pointRead
  decide

/-- R64: a RESTORE COMMAND, a SETTLE ANSWER and a SETTLE REQUEST with every bit marked 0 set are read all the same. -/
theorem test_bits_marked_zero :
    parseFrame [0x1E, 3, 0xE4, 0xDF, 9, 0, 0] = some (.restoreCommand 30 4 6 true 9) ∧
      parseFrame [0x27, 9, 0xE4, 0xF9, 8, 0x00, 5, 1, 2, 0, 0, 0, 0] =
        some (.settleAnswer 7 4 1 8
          { point := 0, head := .free, start := false, condition := .normal, last := none, serial := 5, nAB := 0x102
            nBA := 0 }) ∧
      parseFrame [0x47, 3, 0x39, 8, 0x91, 0, 0] = some (.settleRequest 7 1 8 [(4, 1)]) := by decide

/-- The small station with the handling of this frame about to end. -/
def handling (bytes : List Byte) : State := running.withRx { running.rx with handling := some bytes }

theorem pendingSound_withRx {s : State} (h : PendingSound s) (rx : Receiver) : PendingSound (s.withRx rx) :=
  ⟨h.ordered, h.numbered, h.distinct, h.classes, h.inUse, h.answers, h.rounds, h.next, h.lowest, h.empty,
    h.reportTimers, h.statusTimers⟩

theorem attnSound_withRx {s : State} (h : AttnSound s) (rx : Receiver) : AttnSound (s.withRx rx) := ⟨h.attn0, h.attn1⟩

theorem handling_sound (bytes : List Byte) : PendingSound (handling bytes) ∧ AttnSound (handling bytes) :=
  ⟨pendingSound_withRx running_pendingSound _, attnSound_withRx running_attnSound _⟩

theorem witness_FramesWithoutEffect :
    let status := (Frame.sectionStatus 7 true statusOf).encode
    let foreign := (Frame.restoreCommand 30 5 0 true 5).encode
    (handling [0xE7, 3, 0, 0, 0, 0, 0]).mode.listens = true ∧
      (handling [0xE7, 3, 0, 0, 0, 0, 0]).rx.handling = some [0xE7, 3, 0, 0, 0, 0, 0] ∧
      parseFrame [0xE7, 3, 0, 0, 0, 0, 0] = none ∧ classOf [0xE7, 3, 0, 0, 0, 0, 0] = 7 ∧
      parseFrame status = some (.sectionStatus 7) ∧
      parseFrame foreign = some (.restoreCommand 30 5 0 true 5) ∧ (handling foreign).station ≠ some 5 := by decide

theorem witness_FramesWithoutEffect_sound :
    PendingSound (handling (Frame.sectionStatus 7 true statusOf).encode) ∧
      AttnSound (handling (Frame.sectionStatus 7 true statusOf).encode) := handling_sound _

theorem listening_attnSound : AttnSound { listening with attn0 := .released, attn1 := .released } := by
  constructor
  all_goals
    refine iff_of_false (by decide) ?_
    rintro (h | ⟨c, enabled, selected, holds⟩)
    · cases h
    · cases c
      · obtain ⟨n, sec, h, -⟩ := holds; simp [listening, State.reset] at h
      · exact absurd holds (by unfold State.classHolds; decide)
      · exact absurd holds (by unfold State.classHolds; decide)
      · obtain ⟨m, e, h, -⟩ := holds; simp [listening, State.reset] at h

theorem witness_FramesWithoutEffect_listening :
    let request := (Frame.settleRequest 7 0 0 [(4, 0)]).encode
    let s := { listening with attn0 := .released, attn1 := .released }.withRx
      { State.reset.rx with handling := some request }
    s.mode = .listening ∧ s.rx.handling = some request ∧ PendingSound s ∧ AttnSound s ∧
      parseFrame request = some (.settleRequest 7 0 0 [(4, 0)]) :=
  ⟨rfl, rfl,
    ⟨listening_invariants.2.1.ordered, listening_invariants.2.1.numbered, listening_invariants.2.1.distinct,
      listening_invariants.2.1.classes, listening_invariants.2.1.inUse, listening_invariants.2.1.answers,
      listening_invariants.2.1.rounds, listening_invariants.2.1.next, listening_invariants.2.1.lowest,
      listening_invariants.2.1.empty, listening_invariants.2.1.reportTimers, listening_invariants.2.1.statusTimers⟩,
    attnSound_withRx listening_attnSound _, by decide⟩

/-- The content of the configured remote point 7/0. -/
def remote : PointContent :=
  { point := 0, head := .free, start := false, condition := .normal, last := none, serial := 0, nAB := 0, nBA := 0 }

/-- A COUNT REPORT of station 7. -/
def report (c : PointContent) : List Byte := (Frame.countReport 7 true c none).encode

theorem running_names : names running 0 entry 7 0 :=
  ⟨rfl, rfl, rfl, fun _ _ h _ _ => (running_entry h).1⟩

theorem witness_CountReportCompletes_unknown :
    let bytes := report content
    (handling bytes).mode.listens = true ∧ (handling bytes).rx.handling = some bytes ∧
      parseFrame bytes = some (.countReport 7 content) ∧ PendingSound (handling bytes) ∧ AttnSound (handling bytes) ∧
      ∀ m e, (handling bytes).mirror.get m = some e → ¬ (e.station = 7 ∧ e.point = content.point) :=
  ⟨rfl, rfl, by decide, (handling_sound _).1, (handling_sound _).2, fun m e h => by
    rw [(running_entry h).2]; decide⟩

theorem witness_CountReportCompletes_ordinary :
    let c := { remote with nAB := 64, nBA := 64 }
    parseFrame (report c) = some (.countReport 7 c) ∧ names (handling (report c)) 0 entry 7 c.point ∧
      entry.hold = .fresh quietView ∧ ¬ (c.start = true ∧ quietView.start = false) ∧
      deltaOf c.nAB quietView.nAB ≤ 64 ∧ deltaOf c.nBA quietView.nBA ≤ 64 :=
  ⟨by decide, running_names, rfl, by decide, by decide, by decide⟩

theorem witness_CountReportCompletes_jump :
    let c := { remote with nAB := 65 }
    parseFrame (report c) = some (.countReport 7 c) ∧ names (handling (report c)) 0 entry 7 c.point ∧
      ¬ (c.start = true ∧ quietView.start = false) ∧ 64 < deltaOf c.nAB quietView.nAB ∧
      64 < deltaOf (65535 : Count) quietView.nBA :=
  ⟨by decide, running_names, by decide, by decide, by decide⟩

theorem witness_CountReportCompletes_restart :
    let c := { remote with start := true }
    parseFrame (report c) = some (.countReport 7 c) ∧ names (handling (report c)) 0 entry 7 c.point ∧
      c.start = true ∧ quietView.start = false := ⟨by decide, running_names, rfl, rfl⟩

/-- The small station with its mirror entry UNHEARD. -/
def unheard : State :=
  { handling (report remote) with
    mirror := .tabulate fun m => if m = 0 then some { entry with hold := .unheard } else none, attn1 := .active }

theorem unheard_entry {m : EntryIndex} {e : MirrorEntry} (h : unheard.mirror.get m = some e) :
    m = 0 ∧ e = { entry with hold := .unheard } := by
  have h' : (if m = 0 then some { entry with hold := .unheard } else none) = some e := by simpa [unheard] using h
  split at h'
  · exact ⟨‹_›, (Option.some.inj h').symm⟩
  · cases h'

theorem witness_CountReportCompletes_rebase :
    PendingSound unheard ∧ AttnSound unheard ∧ names unheard 0 { entry with hold := .unheard } 7 0 ∧
      ∀ v, MirrorHold.unheard ≠ .fresh v := by
  refine ⟨⟨running_pendingSound.ordered, running_pendingSound.numbered, running_pendingSound.distinct,
    running_pendingSound.classes, running_pendingSound.inUse, running_pendingSound.answers,
    running_pendingSound.rounds, running_pendingSound.next, running_pendingSound.lowest, running_pendingSound.empty,
    running_pendingSound.reportTimers, running_pendingSound.statusTimers⟩, ⟨?_, ?_⟩,
    ⟨rfl, rfl, rfl, fun _ _ h _ _ => (unheard_entry h).1⟩, by intro v h; cases h⟩
  · exact ⟨fun _ => .inr ⟨.sectionDisturbed, by decide, by decide, 2, disturbedSection, rfl, rfl⟩, fun _ => rfl⟩
  · exact ⟨fun _ => .inr ⟨.mirrorNotFresh, by decide, by decide, 0, { entry with hold := .unheard }, rfl, by
      intro v h; cases h⟩, fun _ => rfl⟩

theorem witness_CountReportCompletes_status :
    let c := { remote with nAB := 65 }
    (handling (report c)).mode = .running ∧
      sectionMoved ((handling (report c)).sections.get 1) ((after .countReport (handling (report c))).sections.get 1) :=
  ⟨rfl, settlingSection, disturbedBy .jump (.mirror 0) (shown { remote with nAB := 65 }) settlingSection, rfl,
    by decide, .inl (by decide)⟩

/-- A SETTLE ANSWER of station 7 to this station's slot 1. -/
def answer (tag : Serial) : List Byte := (Frame.settleAnswer 7 4 1 tag remote).encode

theorem witness_SettleAnswerCompletes :
    ∃ r, settlingSection.round = some r ∧
      (handling (answer 0)).mode = .running ∧ (handling (answer 0)).station = some 4 ∧
      (handling (answer 0)).rx.handling = some (answer 0) ∧
      parseFrame (answer 0) = some (.settleAnswer 7 4 1 0 remote) ∧ names (handling (answer 0)) 0 entry 7 remote.point ∧
      entry.hold = .fresh quietView ∧ quietView.nAB = remote.nAB ∧ quietView.nBA = remote.nBA ∧
      quietView.serial = remote.serial ∧ remote.condition = .normal ∧ remote.head = .free ∧
      ¬ (remote.start = true ∧ quietView.start = false) ∧
      (handling (answer 0)).sections.get 1 = some settlingSection ∧ settlingSection.state = .settling ∧
      settlingSection.balance = some 0 ∧
      (∀ t ∈ settlingSection.terms, t.source = .mirror 0 →
        t.aAB = remote.nAB ∧ t.aBA = remote.nBA ∧ t.aSerial = remote.serial) ∧
      r.tag = 0 ∧ r.unanswered ≠ [] ∧
      r.unanswered.filter (fun i => settlingSection.terms[i]?.map Term.source ≠ some (.mirror 0)) = [] ∧
      ((handling (answer 0)).lines.get 1).toggling = false ∧
      parseFrame (answer 1) = some (.settleAnswer 7 4 1 1 remote) :=
  ⟨_, rfl, rfl, rfl, rfl, by decide, running_names, rfl, rfl, rfl, rfl, rfl, rfl, by decide, rfl, rfl, rfl,
    by decide, rfl, by decide, by decide, rfl, by decide⟩

theorem witness_SettleAnswerCompletes_asReport :
    let s := handling (answer 0)
    s.mode.listens = true ∧ s.rx.handling = some (answer 0) ∧
      parseFrame (answer 0) = some (.settleAnswer 7 4 1 0 remote) ∧
      parseFrame (report remote) = some (.countReport 7 remote) ∧ { s with mode := .listening }.mode = .listening ∧
      { s with station := some 5 }.station ≠ some 4 := by decide

/-- The first stage leaves the answer's slot in use with no round (CLEAR before it, or SETTLING until the answer shows a
wheel), not in use, with a round of another tag, or with one that does not await the point. -/
theorem witness_SettleAnswerCompletes_uncounted :
    let u := after .countReport (handling (report remote))
    let shut := after .countReport (handling (report { remote with head := .wheelOn }))
    (u.sections.get 0).map Section.round = some none ∧ (shut.sections.get 1).map Section.round = some none ∧
      (u.sections.get 1).map Section.round ≠ some none ∧ u.sections.get 7 = none ∧
      (∀ sec ∈ u.sections.get 1, ∀ r ∈ sec.round, r.tag ≠ 1) ∧
      ∀ sec ∈ u.sections.get 1, ∀ r ∈ sec.round, r.unanswered.all (fun i =>
        decide (sec.terms[i]?.bind u.remotePoint ≠ some (7, 1))) = true := by decide

/-- The first stage leaves the round open, with the answer's tag, awaiting the answer's point. -/
theorem witness_SettleAnswerCompletes_counted :
    let u := after .countReport (handling (report remote))
    exec .countReport ((handling (answer 0)).withRx { (handling (answer 0)).rx with handling := some (report remote) }) =
        .next u ∧
      ∃ r, u.sections.get 1 = some settlingSection ∧ settlingSection.round = some r ∧ r.tag = 0 ∧
        deltaOf remote.nAB quietView.nAB ≤ 64 ∧ deltaOf remote.nBA quietView.nBA ≤ 64 ∧
        ∃ i ∈ r.unanswered, asksFor u settlingSection 7 0 i := by
  refine ⟨rfl, _, by decide, rfl, rfl, by decide, by decide, 1, by decide, term (.mirror 0) .inwardBA, 0,
    entry.accept remote, rfl, rfl, by decide, rfl, rfl⟩

/-- An answer for a point that no entry names; one that is a jump; one for an UNHEARD entry. -/
theorem witness_SettleAnswerCompletes_notOrdinary :
    (∀ m e v, running.mirror.get m = some e → e.station = 7 → e.point = content.point → e.hold ≠ .fresh v) ∧
      (∀ m e v, running.mirror.get m = some e → e.station = 7 → e.point = 0 → e.hold = .fresh v →
        64 < deltaOf 65 v.nAB) ∧
      ∀ m e v, unheard.mirror.get m = some e → e.hold ≠ .fresh v := by
  refine ⟨fun m e v h _ p => ?_, fun m e v h _ _ f => ?_, fun m e v h => ?_⟩
  · rw [(running_entry h).2] at p; exact absurd p (by decide)
  · rw [(running_entry h).2] at f; obtain rfl := MirrorHold.fresh.inj f; decide
  · rw [(unheard_entry h).2]; intro f; cases f

theorem witness_SettleAnswerCompletes_status :
    PendingSound (handling (answer 0)) ∧ sectionMoved ((handling (answer 0)).sections.get 1)
      ((after .settleAnswer (handling (answer 0))).sections.get 1) :=
  ⟨(handling_sound _).1, settlingSection, { settlingSection with state := .clear, round := none }, rfl, by decide,
    .inl (by decide)⟩

theorem witness_SettleAnswerCompletes_waiting :
    let sec : Section :=
      { settlingSection with terms := settlingSection.terms ++ [term (.mirror 1) .inwardAB] }
    let r : Round := { id := 0, tag := 0, unanswered := [1, 2], deadline := .started }
    r.unanswered.filter (fun i => sec.terms[i]?.map Term.source ≠ some (.mirror 0)) ≠ [] := by decide

/-- A SETTLE REQUEST of station 7 for point 4/0. -/
def request : List Byte := (Frame.settleRequest 7 2 9 [(4, 0)]).encode

theorem witness_SettleRequestCompletes :
    let s := handling request
    s.mode = .running ∧ s.station = some 4 ∧ s.rx.handling = some request ∧
      parseFrame request = some (.settleRequest 7 2 9 [(4, 0)]) ∧ PendingSound s ∧ AttnSound s ∧
      s.pointInUse 0 = true ∧ notPreempted s.tx 1 ∧
      (∀ e ∈ s.tx.entries, ∀ old, e.kind ≠ .answer 7 2 0 old) ∧ s.tx.answersHeld < 8 ∧
      s.pointInUse 3 = false :=
  ⟨rfl, rfl, rfl, by decide, (handling_sound _).1, (handling_sound _).2, by decide,
    ⟨fun _ h => (nomatch h), fun _ h => (nomatch h)⟩, fun _ h => (nomatch h), by decide, by decide⟩

/-- A request in the next layer whose round has closed, one whose round is open, and a report: each gives way to the
answer, and the first is removed. -/
theorem witness_SettleRequestCompletes_preempts :
    let s := fun e => (sending (layered e) [⟨.status 3, 6, 2⟩]).withRx { running.rx with handling := some request }
    (∀ e ∈ [(⟨.request 1 7 0, 2, 1⟩ : Entry), ⟨.request 1 0 0, 2, 1⟩, ⟨.report 0, 3, 1⟩],
        (s e).tx.next.isSome = true ∧ 1 < e.cls ∧ (s e).pointInUse 0 = true ∧
          ((after .settleRequest (s e)).tx.next.map fun lf => lf.entry) = some ⟨.answer 7 2 0 9, 1, 9⟩) ∧
      (after .settleRequest (s ⟨.request 1 7 0, 2, 1⟩)).tx.entries = [⟨.status 3, 6, 2⟩] ∧
      (after .settleRequest (s ⟨.request 1 0 0, 2, 1⟩)).tx.entries = [⟨.request 1 0 0, 2, 1⟩, ⟨.status 3, 6, 2⟩] := by
  decide

theorem witness_SettleRequestCompletes_preempts_sound :
    PendingSound ((sending (layered ⟨.request 1 7 0, 2, 1⟩) [⟨.status 3, 6, 2⟩]).withRx
      { running.rx with handling := some request }) := by
  have only {e : Entry} (h : e ∈ [(⟨.status 3, 6, 2⟩ : Entry)]) : e = ⟨.status 3, 6, 2⟩ := List.mem_singleton.mp h
  constructor
  case classes => intro e h; rw [only h]; exact .inr rfl
  case inUse => intro e h; rw [only h]; exact (rfl : (running.sections.get 3).isSome = true)
  case next =>
    intro lf h
    obtain rfl := (Option.some.inj h).symm
    exact ⟨by decide, rfl, (rfl : (running.sections.get 1).isSome = true), by decide⟩
  all_goals decide

theorem roundGone_example : roundGone running (.request 1 7 0) :=
  ⟨1, 7, 0, rfl, fun sec r h e => by
    obtain rfl : sec = settlingSection := (Option.some.inj h).symm
    obtain rfl := (Option.some.inj e).symm
    decide⟩

/-- The small station with an answer to each of these stations pending, in this order. -/
def answering (requesters : List Station) : State :=
  (handling request).withTx { running.tx with
    entries := requesters.zipIdx.map fun k => { kind := .answer k.1 2 0 8, cls := 1, place := k.2 }, nextPlace := 9 }

theorem answering_sound {requesters : List Station}
    (ordered : (answering requesters).tx.entries.Pairwise fun e f => e.place < f.place)
    (numbered : ∀ e ∈ (answering requesters).tx.entries, e.place < 9)
    (distinct : (answering requesters).tx.entries.Pairwise fun e f => e.kind.sameKey f.kind = false)
    (answers : (answering requesters).tx.answersHeld ≤ 8) :
    PendingSound (answering requesters) ∧ AttnSound (answering requesters) := by
  have kinds : ∀ e ∈ (answering requesters).tx.entries, ∃ k : Station × Nat, e = ⟨.answer k.1 2 0 8, 1, k.2⟩ := by
    intro e h
    obtain ⟨k, -, rfl⟩ := List.mem_map.1 h
    exact ⟨k, rfl⟩
  refine ⟨⟨ordered, numbered, distinct, ?_, ?_, answers, ?_, fun _ h => (nomatch h), fun _ h => (nomatch h),
    fun h => absurd rfl h, running_pendingSound.reportTimers, running_pendingSound.statusTimers⟩,
    ⟨running_attnSound.attn0, running_attnSound.attn1⟩⟩
  · intro e h; obtain ⟨k, rfl⟩ := kinds e h; rfl
  · intro e h; obtain ⟨k, rfl⟩ := kinds e h; exact (by decide : running.pointInUse 0 = true)
  · intro _ e h; obtain ⟨k, rfl⟩ := kinds e h; rfl

theorem witness_SettleRequestCompletes_again :
    PendingSound (answering [7]) ∧ AttnSound (answering [7]) ∧
      ∃ e ∈ (answering [7]).tx.entries, e.kind = .answer 7 2 0 8 :=
  have h := answering_sound (requesters := [7]) (by decide) (by decide) (by decide) (by decide)
  ⟨h.1, h.2, by decide⟩

theorem witness_SettleRequestCompletes_full :
    let s := answering [8, 9, 10, 11, 12, 13, 14, 15]
    PendingSound s ∧ AttnSound s ∧ s.tx.answersHeld = 8 ∧
      ∀ e ∈ s.tx.entries, e.kind.sameKey (.answer 7 2 0 8) = false :=
  have h := answering_sound (requesters := [8, 9, 10, 11, 12, 13, 14, 15]) (by decide) (by decide) (by decide)
    (by decide)
  ⟨h.1, h.2, by decide, by decide⟩

/-- A RESTORE COMMAND of this station for a slot of this one. -/
def restore (source : Station) (n : Slot) (direct : Bool) (serial : Serial) : List Byte :=
  (Frame.restoreCommand source 4 n direct serial).encode

theorem witness_RestoreIgnoredOrRefused :
    let s := handling (restore 30 7 true 5)
    s.mode = .running ∧ s.station = some 4 ∧ s.config = some config ∧ s.rx.handling = some (restore 30 7 true 5) ∧
      parseFrame (restore 30 7 true 5) = some (.restoreCommand 30 4 7 true 5) ∧ PendingSound s ∧ AttnSound s ∧
      s.sections.get 7 = none :=
  ⟨rfl, rfl, rfl, rfl, by decide, (handling_sound _).1, (handling_sound _).2, rfl⟩

theorem witness_RestoreIgnoredOrRefused_unauthorized :
    parseFrame (restore 7 2 false 5) = some (.restoreCommand 7 4 2 false 5) ∧ config.restore1 ≠ 7 ∧
      config.restore2 ≠ 7 := by decide

theorem witness_RestoreIgnoredOrRefused_duplicate :
    parseFrame (restore 31 6 true 5) = some (.restoreCommand 31 4 6 true 5) ∧
      (handling (restore 31 6 true 5)).sections.get 6 = some localSection ∧ localSection.restoreSerial = some 5 := by
  decide

theorem witness_RestoreIgnoredOrRefused_refused_state :
    parseFrame (restore 31 0 false 5) = some (.restoreCommand 31 4 0 false 5) ∧
      (handling (restore 31 0 false 5)).sections.get 0 = some clearSection ∧ config.restore2 = 31 ∧
      clearSection.restoreSerial ≠ some 5 ∧ clearSection.state ≠ .disturbed ∧
      ((handling (restore 31 0 false 5)).lines.get 0).toggling = true := by decide

theorem witness_RestoreIgnoredOrRefused_refused_mode :
    parseFrame (restore 30 2 true 5) = some (.restoreCommand 30 4 2 true 5) ∧
      (handling (restore 30 2 true 5)).sections.get 2 = some disturbedSection ∧ config.restore1 = 30 ∧
      disturbedSection.state = .disturbed ∧ disturbedSection.direct = false ∧
      (handling (restore 30 2 true 5)).lines.get 2 = .low := by decide

/-- A wheel over point 0 at the end of a handling. -/
def wheelOver (bytes : List Byte) : State := withRecord (fun r => { r with head := .wheelOn }) (handling bytes)

theorem witness_RestoreIgnoredOrRefused_refused_terms :
    let s := wheelOver (restore 30 2 false 5)
    PendingSound s ∧ AttnSound s ∧ s.sections.get 2 = some disturbedSection ∧
      ∃ t ∈ disturbedSection.terms, ¬ quiet s t := by
  refine ⟨?_, attnSound_like rfl rfl rfl rfl rfl rfl (by decide), rfl, term (.localPoint 0) .inwardAB, by decide, ?_⟩
  · have h := (handling_sound (restore 30 2 false 5)).1
    exact ⟨h.ordered, h.numbered, h.distinct, h.classes, h.inUse, h.answers, h.rounds, h.next, h.lowest, h.empty,
      h.reportTimers, h.statusTimers⟩
  · exact fun h => absurd h.2 (by decide)

theorem quiet_terms {bytes : List Byte} (t : Term)
    (h : t = term (.localPoint 0) .inwardAB ∨ t = term (.localPoint 2) .inwardAB ∨ t = term (.mirror 0) .inwardAB) :
    quiet (handling bytes) t := by
  rcases h with rfl | rfl | rfl
  · exact ⟨rfl, rfl⟩
  · exact ⟨rfl, rfl⟩
  · exact ⟨entry, quietView, rfl, rfl, rfl, rfl⟩

theorem witness_RestoreAccepted_prove :
    let s := handling (restore 30 2 false 5)
    s.mode = .running ∧ s.station = some 4 ∧ s.config = some config ∧ s.rx.handling = some (restore 30 2 false 5) ∧
      parseFrame (restore 30 2 false 5) = some (.restoreCommand 30 4 2 false 5) ∧ PendingSound s ∧
      config.restore1 = 30 ∧ s.sections.get 2 = some disturbedSection ∧ SectionShape disturbedSection ∧
      disturbedSection.restoreSerial ≠ some 5 ∧ disturbedSection.state = .disturbed ∧
      ∀ t ∈ disturbedSection.terms, quiet s t :=
  ⟨rfl, rfl, rfl, rfl, by decide, (handling_sound _).1, rfl, rfl, running_disturbedShape, by decide, rfl, fun t h => by
    simp [disturbedSection] at h; exact quiet_terms t (by tauto)⟩

theorem witness_RestoreAccepted_direct :
    let s := handling (restore 30 5 true 5)
    parseFrame (restore 30 5 true 5) = some (.restoreCommand 30 4 5 true 5) ∧ PendingSound s ∧
      s.sections.get 5 = some directSection ∧ SectionShape directSection ∧ directSection.direct = true ∧
      (∀ t ∈ directSection.terms, quiet s t) ∧ ∃ u ∈ directSection.terms, u.isRemote = true :=
  ⟨by decide, (handling_sound _).1, rfl, running_directShape, rfl, fun t h => by
    simp [directSection, disturbedSection] at h; exact quiet_terms t (by tauto), by decide⟩

theorem witness_RestoreAccepted_local :
    let s := handling (restore 30 6 true 6)
    parseFrame (restore 30 6 true 6) = some (.restoreCommand 30 4 6 true 6) ∧ PendingSound s ∧
      s.sections.get 6 = some localSection ∧ SectionShape localSection ∧ localSection.restoreSerial ≠ some 6 ∧
      (∀ t ∈ localSection.terms, quiet s t) ∧ (∀ u ∈ localSection.terms, u.isRemote = false) ∧
      (s.lines.get 6).toggling = false :=
  ⟨by decide, (handling_sound _).1, rfl, running_localShape, by decide, fun t h => by
    simp [localSection] at h; exact quiet_terms t (by tauto), by decide, rfl⟩

/-! ## Witnesses: sections -/

/-- Point 0 with these counts, head and serial. -/
def point0 (nAB nBA : Count) (head : Head) (serial : Serial) : State :=
  withRecord (fun r => { r with nAB := nAB, nBA := nBA, head := head, serial := serial }) running

/-- What point 0 then shows. -/
def view0 (nAB nBA : Count) (head : Head) (serial : Serial) : SourceView :=
  { nAB := nAB, nBA := nBA, head := head, condition := .normal, serial := serial, fresh := true }

/-- A section of one local term in this state, with this balance. -/
def oneTerm (state : SectionState) (balance : Nat) : Section :=
  { clearSection with terms := [term (.localPoint 0) .inwardAB], state := state, balance := some balance }

/-- A SETTLING section with a local and a remote term. -/
def settling0 : Section :=
  { settlingSection with terms := [term (.localPoint 0) .inwardAB, term (.mirror 0) .inwardBA] }

theorem settling0_shape : SectionShape settling0 := by constructor <;> decide

theorem witness_TermEventOutcomes_disturbed :
    running.source (.localPoint 0) = some (view0 0 0 .free 0) ∧ SectionShape disturbedSection ∧
      disturbedSection.uses (.localPoint 0) = true ∧ disturbedSection.state = .disturbed :=
  ⟨rfl, running_disturbedShape, rfl, rfl⟩

theorem witness_TermEventOutcomes_moved :
    (point0 0 0 .free 1).source (.localPoint 0) = some (view0 0 0 .free 1) ∧ SectionShape clearSection ∧
      clearSection.uses (.localPoint 0) = true ∧ clearSection.state ≠ .disturbed ∧
      moved (.localPoint 0) (view0 0 0 .free 1) clearSection :=
  ⟨rfl, running_clearShape, rfl, by decide, by unfold moved; decide⟩

theorem witness_TermEventOutcomes_underflow :
    (point0 0 1 .free 0).source (.localPoint 0) = some (view0 0 1 .free 0) ∧ SectionShape (oneTerm .proving 0) ∧
      (oneTerm .proving 0).uses (.localPoint 0) = true ∧
      ¬ moved (.localPoint 0) (view0 0 1 .free 0) (oneTerm .proving 0) ∧
      (0 : Int) + netOf (.localPoint 0) (view0 0 1 .free 0) (oneTerm .proving 0) < 0 :=
  ⟨rfl, by constructor <;> decide, rfl, by unfold moved; decide, by decide⟩

theorem witness_TermEventOutcomes_overflow :
    (point0 1 0 .free 0).source (.localPoint 0) = some (view0 1 0 .free 0) ∧ SectionShape (oneTerm .occupied 1023) ∧
      ¬ moved (.localPoint 0) (view0 1 0 .free 0) (oneTerm .occupied 1023) ∧
      1023 < (1023 : Int) + netOf (.localPoint 0) (view0 1 0 .free 0) (oneTerm .occupied 1023) :=
  ⟨rfl, by constructor <;> decide, by unfold moved; decide, by decide⟩

theorem witness_TermEventOutcomes_settling :
    (point0 1 0 .free 0).source (.localPoint 0) = some (view0 1 0 .free 0) ∧ SectionShape settling0 ∧
      settling0.uses (.localPoint 0) = true ∧ settling0.balance = some 0 ∧
      ¬ moved (.localPoint 0) (view0 1 0 .free 0) settling0 ∧ settling0.state = .settling ∧
      netOf (.localPoint 0) (view0 1 0 .free 0) settling0 = 1 ∧ (view0 0 0 .wheelOn 0).head = .wheelOn ∧
      netOf (.localPoint 0) (view0 0 0 .free 0) settling0 = 0 :=
  ⟨rfl, settling0_shape, rfl, rfl, by unfold moved; decide, rfl, by decide, rfl, by decide⟩

theorem witness_TermEventOutcomes_clear :
    SectionShape (oneTerm .clear 0) ∧ ¬ moved (.localPoint 0) (view0 1 0 .free 0) (oneTerm .clear 0) ∧
      netOf (.localPoint 0) (view0 1 0 .free 0) (oneTerm .clear 0) = 1 ∧
      netOf (.localPoint 0) (view0 0 0 .free 0) (oneTerm .clear 0) = 0 :=
  ⟨by constructor <;> decide, by unfold moved; decide, by decide, by decide⟩

theorem witness_TermEventOutcomes_occupied :
    SectionShape (oneTerm .occupied 1022) ∧ ¬ moved (.localPoint 0) (view0 1 0 .free 0) (oneTerm .occupied 1022) ∧
      ((1023 : Nat) : Int) = (1022 : Nat) + netOf (.localPoint 0) (view0 1 0 .free 0) (oneTerm .occupied 1022) ∧
      ((0 : Nat) : Int) = (1 : Nat) + netOf (.localPoint 0) (view0 0 1 .free 0) (oneTerm .occupied 1) ∧
      (point0 0 1 .free 0).allQuiet (oneTerm .occupied 1) = true :=
  ⟨by constructor <;> decide, by unfold moved; decide, by decide, by decide, by decide⟩

theorem witness_TermEventOutcomes_proving :
    let sec : Section := { oneTerm .proving 1 with swept := true }
    SectionShape sec ∧ sec.state = .proving ∧
      ((0 : Nat) : Int) = (1 : Nat) + netOf (.localPoint 0) (view0 0 1 .free 0) sec ∧
      (point0 0 1 .free 0).allQuiet sec = true := ⟨by constructor <;> decide, rfl, by decide, by decide⟩

theorem witness_AgeTimerExpiryCompletes :
    running.mode.listens = true ∧ running.mirror.get 0 = some entry ∧ entry.hold = .fresh quietView ∧
      entry.age.running = true ∧ entry.overtaken = false ∧ running.sections.get 1 = some settlingSection ∧
      settlingSection.uses (.mirror 0) = true ∧ settlingSection.state ≠ .disturbed ∧ running.mode = .running ∧
      PendingSound running :=
  ⟨rfl, rfl, rfl, rfl, rfl, rfl, rfl, by decide, rfl, running_pendingSound⟩

/-- The small station at the instant at which the age timer of its entry has run 800 ms, with a COUNT REPORT handled. -/
def silent (elapsed : Nat) : State :=
  { handling (report remote) with
    mirror := .tabulate fun m =>
      if m = 0 then some { entry with age := { running := true, elapsed := elapsed } } else none }

theorem silent_entry {elapsed : Nat} {m : EntryIndex} {e : MirrorEntry} (h : (silent elapsed).mirror.get m = some e) :
    m = 0 := by
  have h' : (if m = 0 then some { entry with age := { running := true, elapsed := elapsed } } else none) = some e := by
    simpa [silent] using h
  split at h'
  · assumption
  · cases h'

theorem witness_AgeTimerExpiryCompletes_overtaken :
    let e : MirrorEntry := { entry with age := { running := true, elapsed := 800000 } }
    (silent 800000).mode.listens = true ∧ names (silent 800000) 0 e 7 0 ∧ e.hold = .fresh quietView ∧
      e.age.elapsed = 800000 ∧ (silent 800000).rx.handling = some (report remote) ∧
      parseFrame (report remote) = some (.countReport 7 remote) ∧
      exec .countReport (silent 800000) = .next (after .countReport (silent 800000)) :=
  ⟨rfl, ⟨rfl, rfl, rfl, fun _ _ h _ _ => silent_entry h⟩, rfl, rfl, rfl, by decide, rfl⟩

/-- R99: of a frame and an expiry at one instant the frame is taken first, and no expiry takes place; before that instant
the command is the sender's word for a later one (log 2), and the expiry taken first makes the entry STALE. -/
theorem test_frame_overtakes_age_expiry :
    let cause := fun s : State => (s.sections.get 1).bind Section.cause
    cause (after (.ageTimerExpiry 0) (after .countReport (silent 800000))) = none ∧
      cause (after (.ageTimerExpiry 0) (after .countReport (silent 799999))) = some .stale ∧
      cause (after .countReport (after (.ageTimerExpiry 0) (silent 800000))) = some .stale := by decide

theorem witness_DeadlineAndHoldOffExpiry_deadline :
    running.mode = .running ∧ running.sections.get 1 = some settlingSection ∧ SectionShape settlingSection ∧
      PendingSound running ∧ settlingSection.state = .settling :=
  ⟨rfl, rfl, running_settlingShape, running_pendingSound, rfl⟩

theorem witness_DeadlineAndHoldOffExpiry_holdOff :
    running.sections.get 3 = some occupiedSection ∧ SectionShape occupiedSection ∧
      occupiedSection.holdOff.running = true ∧ occupiedSection.balance = some 0 ∧
      running.allQuiet occupiedSection = true ∧ occupiedSection.hasRemote = false ∧
      (running.lines.get 3).toggling = false := ⟨rfl, running_occupiedShape, rfl, rfl, by decide, by decide, rfl⟩

/-- A hold-off that ends over a balance of 1. -/
def unsettled : State :=
  { running with sections := running.sections.set 3 (some { occupiedSection with balance := some 1 }) }

theorem witness_DeadlineAndHoldOffExpiry_else :
    ∃ sec, unsettled.mode = .running ∧ unsettled.sections.get 3 = some sec ∧ SectionShape sec ∧
      PendingSound unsettled ∧ sec.holdOff.running = true ∧ ¬ (sec.balance = some 0 ∧ unsettled.allQuiet sec = true) := by
  refine ⟨_, rfl, rfl, by constructor <;> decide, ?_, rfl, by decide⟩
  constructor
  case reportTimers => decide
  case statusTimers => decide
  case answers => decide
  all_goals simp [unsettled, running, Transmitter.reset]

/-- The small station with an OCCUPIED section in slot 1 whose hold-off runs. -/
def spaced : State :=
  { running with
    sections := running.sections.set 1
      (some { settlingSection with state := .occupied, round := none, holdOff := .started }) }

theorem witness_DeadlineAndHoldOffExpiry_remote :
    ∃ sec, spaced.mode = .running ∧ spaced.sections.get 1 = some sec ∧ SectionShape sec ∧ PendingSound spaced ∧
      sec.holdOff.running = true ∧ sec.balance = some 0 ∧ spaced.allQuiet sec = true ∧ sec.hasRemote = true := by
  refine ⟨_, rfl, rfl, by constructor <;> decide, ?_, rfl, rfl, by decide, by decide⟩
  constructor
  case reportTimers => decide
  case statusTimers => decide
  case answers => decide
  all_goals simp [spaced, running, Transmitter.reset]

/-! ## Witnesses: start-up, reset and the indications -/

theorem witness_ResetAndRelease : State.reset.mode = .heldInReset ∧ (4 : Station) ≠ 0 := by decide

/-- An image for station 4: point 0 in use, mirror entry 0 for point 7/0, slot 0 on both. -/
def image : List Byte :=
  [0x4F, 0x7A, 1, 4, 3, 1, 0xF5, 30, 31, 0, 0, 0, 0, 0, 0, 0] ++
    [1, 140, 1, 0xC2, 1, 44, 1, 84, 1, 44, 1, 84] ++ [0, 60, 0, 100, 0, 25, 0, 41, 3, 0xD7, 3, 0xE7] ++
    [0, 140, 1, 0xC2, 1, 44, 1, 84, 1, 44, 1, 84] ++ [0, 250, 1, 0xF4, 1, 44, 1, 84, 1, 44, 1, 84] ++
    (7 :: 0 :: List.replicate 30 0) ++ ([1, 1, 0x0F, 0xFF, 2, 0x00, 0xC0, 0, 0] ++ List.replicate 63 0) ++
    List.replicate 86 0 ++ [0xF0, 0x14]

/-- Station 4 as its read ends. -/
def loading : State := after (.resetRelease 4) State.reset

theorem witness_ConfigurationReadCompletes :
    loading.mode = .loading ∧ loading.cfgSelectLow = true ∧ loading.station = some 4 ∧ image.length = 256 := by decide

/-- R176: the read asks for the image in its first 16 clock periods and then releases the line. -/
theorem witness_ConfigurationReadCompletes_request :
    let s := fun clock => { loading with cfgClock := clock }
    (s 5).cfgData = some false ∧ (s 7).cfgData = some true ∧ (s 8).cfgData = some false ∧
      (s 15).cfgData = some false ∧ (s 16).cfgData = none ∧ (s 2063).cfgData = none ∧ running.cfgData = none := by
  decide

set_option maxRecDepth 100000 in
theorem witness_ConfigurationReadCompletes_good : goodImage 4 image := by
  refine ⟨by decide, by decide, by decide, by decide, by decide, by decide, by decide, fun p => ?_, by decide,
    fun n => ?_, by decide⟩
  · simp only [goodPoint]; revert p; decide
  · simp only [goodSection]; revert n; decide

set_option maxRecDepth 100000 in
theorem witness_CheckDetectsItsWord : imageGood 4 image = true := by decide +kernel

theorem witness_ConfigurationReadCompletes_bad :
    (List.replicate 256 (0 : Byte)).length = 256 ∧ ¬ goodImage 4 (List.replicate 256 0) :=
  ⟨by decide, fun h => absurd h.1 (by decide)⟩

theorem witness_PhaseTimersComplete_loading :
    let s := { loading with config := some config, cfgSelectLow := false }
    s.mode = .loading ∧ s.loadingTimer.running = true ∧ s.config = some config ∧
      ((after .loadingTimerExpiry s).mirror.get 0).isSome = true := by decide

theorem witness_PhaseTimersComplete_listening :
    listening.mode = .listening ∧ listening.listeningTimer.running = true ∧ listening.tx.entries = [] ∧
      listening.pointInUse 0 = true := by decide

theorem witness_ModeTransitionsAndHalted_changes :
    exec (.resetRelease 4) State.reset = .next loading ∧ loading.mode ≠ State.reset.mode := ⟨rfl, by decide⟩

/-- The part is in another mode after this command. -/
def changesMode (c : Instr) (s : State) : Prop := exec c s = .next (after c s) ∧ (after c s).mode ≠ s.mode

theorem witness_ModeTransitionsAndHalted_startUp :
    changesMode (.resetAssertion 2) running ∧ changesMode (.resetRelease 0) State.reset ∧
      changesMode (.configurationReadComplete (List.replicate 2048 false)) loading ∧
      changesMode .loadingTimerExpiry { loading with config := some config, cfgSelectLow := false } ∧
      changesMode .listeningTimerExpiry listening :=
  ⟨⟨rfl, by decide⟩, ⟨rfl, by decide⟩, ⟨rfl, by decide⟩, ⟨rfl, by decide⟩, ⟨rfl, by decide⟩⟩

theorem witness_ModeTransitionsAndHalted_requests :
    changesMode (.receiverFrameComplete (dataOf (lastByte (command 4)))) (completing (command 4)) ∧
      changesMode (.characterComplete (dataOf (lastByte (command 4)))) (completing (command 4)) ∧
      changesMode (.mute 0 (steady true)) (live .arbitrating 15) ∧
      changesMode (.bitError 9 (steady false)) (live .sending 15) :=
  ⟨⟨rfl, by decide⟩, ⟨rfl, by decide⟩, ⟨rfl, by decide⟩, ⟨rfl, by decide⟩⟩

theorem witness_ModeTransitionsAndHalted_finishing :
    finishingHalted.mode = .halted ∧ finishingHalted.tx.state = .sending ∧ finishingHalted.tx.live = some liveFrame ∧
      (after (.bitError 9 (steady false)) finishingHalted).tx.live = none ∧
      (after (.bitError 9 (steady false)) finishingHalted).tx.failures = 3 ∧
      (after (.frameCompletion (steady true)) finishingHalted).tx.live = none ∧
      (after (.frameCompletion (steady true)) finishingHalted).tx.failures = 0 := by decide

theorem witness_ModeTransitionsAndHalted_halted :
    let s := after (.resetRelease 0) State.reset
    s.mode = .halted ∧ exec (.sweepCompletion (sweepOf 200 200)) s = .next s ∧
      ∀ k, 2 ≤ k → Instr.sweepCompletion (sweepOf 200 200) ≠ .resetAssertion k :=
  ⟨rfl, rfl, fun _ _ h => nomatch h⟩

theorem witness_ToggleHalfPeriodCompletes :
    ∀ phase ∈ [0, 23, 24, 25, 48, 49], let s := withPhase phase running
      s.mode.listens = true ∧ (s.lines.get 0).toggling = true ∧ (s.lines.get 0).phase = phase ∧
        s.changesReaching (changedPoints s (s.sweepFront (sweepOf 700 700)).sweepRecords) 0 = [] := by decide

/-! ## Witnesses: the invariants -/

/-- A step of the small station. -/
theorem running_steps : step running = .next running.idleStep := rfl

theorem witness_SectionsStaySound :
    SectionsKept running ∧ SectionsCurrent running ∧ step running = .next running.idleStep ∧
      ∃ sec, running.idleStep.sections.get 0 = some sec ∧ sec.state = .clear :=
  ⟨running_sectionsKept, running_sectionsCurrent, rfl, _, rfl, rfl⟩

theorem witness_BalanceStaysCongruent :
    SectionsKept running ∧ BalanceAgrees running ∧ step running = .next running.idleStep :=
  ⟨running_sectionsKept, running_balanceAgrees, rfl⟩

theorem witness_ClearLinesStaySound :
    SectionsKept running ∧ LinesSound running ∧ step running = .next running.idleStep :=
  ⟨running_sectionsKept, running_linesSound, rfl⟩

theorem witness_AttnLinesStaySound : AttnSound running ∧ step running = .next running.idleStep :=
  ⟨running_attnSound, rfl⟩

theorem witness_UnstartedFramesStayCurrent :
    TxSound running ∧ FramesCurrent running ∧ step running = .next running.idleStep :=
  ⟨running_txSound, running_framesCurrent, rfl⟩

theorem witness_PendingListStaysSound :
    SectionsKept running ∧ PendingSound running ∧ step running = .next running.idleStep :=
  ⟨running_sectionsKept, running_pendingSound, rfl⟩

theorem witness_ReceiverStaysSound : RxSound running ∧ step running = .next running.idleStep :=
  ⟨running_rxSound, rfl⟩

theorem witness_PointsStaySound : PointsSound running ∧ step running = .next running.idleStep :=
  ⟨running_pointsSound, rfl⟩

theorem witness_ControlAndMirrorStaySound :
    step running = .next running.idleStep ∧ TxSound running ∧ ModeSound running ∧ MirrorSound running :=
  ⟨rfl, running_txSound, running_modeSound, running_mirrorSound⟩

end Sys2Proof.Tests
end

namespace Sys2Proof.Machine

open Sys2Proof.Claims

/-! ## Proofs: the sensor front end

The statements about front end and point records, a sweep completion as a whole, and reset. -/

/-! ### What every command leaves of front end, records and configuration -/

/-- Front end, records and configuration stand as they stood, and no mode before LISTENING has been entered. -/
structure SamePoints (s t : State) : Prop where
  front : t.front = s.front
  reference : t.reference = s.reference
  records : t.records = s.records
  config : t.config = s.config
  rests : t.mode = .heldInReset ∨ t.mode = .loading → s.mode = .heldInReset ∨ s.mode = .loading

namespace SamePoints

theorem refl (s : State) : SamePoints s s := ⟨rfl, rfl, rfl, rfl, id⟩

theorem trans {s t u : State} (first : SamePoints s t) (second : SamePoints t u) : SamePoints s u where
  front := second.front.trans first.front
  reference := second.reference.trans first.reference
  records := second.records.trans first.records
  config := second.config.trans first.config
  rests := first.rests ∘ second.rests

theorem ite {s t u : State} {c : Prop} [Decidable c] (yes : SamePoints s t) (no : SamePoints s u) :
    SamePoints s (if c then t else u) := by
  split
  · exact yes
  · exact no

/-- A command that takes hold under a condition, and changes nothing elsewhere (log 3). -/
theorem orKept {s t : State} {c : Prop} [Decidable c] (taken : SamePoints s t) :
    SamePoints s (if c then t else s) := ite taken (refl s)

theorem withTx (s : State) (x : Transmitter) : SamePoints s (s.withTx x) := ⟨rfl, rfl, rfl, rfl, id⟩

theorem withRx (s : State) (x : Receiver) : SamePoints s (s.withRx x) := ⟨rfl, rfl, rfl, rfl, id⟩

theorem setMirror (s : State) (m : EntryIndex) (e : MirrorEntry) : SamePoints s (s.setMirror m e) :=
  ⟨rfl, rfl, rfl, rfl, id⟩

theorem withSectionParts (s t : State) : SamePoints s (s.withSectionParts t) := ⟨rfl, rfl, rfl, rfl, id⟩

theorem driveAttn (s : State) : SamePoints s s.driveAttn := ⟨rfl, rfl, rfl, rfl, id⟩

theorem loadNext (s : State) : SamePoints s s.loadNext := by
  rw [State.loadNext_eq]
  exact withTx _ _

theorem preempt (s : State) : SamePoints s s.preempt := by
  rw [State.preempt_eq]
  exact withTx _ _

/-- An event's end: preemption and the ATTN lines. -/
theorem preempt_driveAttn {s t : State} (h : SamePoints s t) : SamePoints s t.preempt.driveAttn :=
  (h.trans (preempt t)).trans (driveAttn _)

theorem applySection (s : State) (n : Slot) (f : Section → Section) : SamePoints s (s.applySection n f) := by
  rw [State.applySection_eq]
  exact withSectionParts _ _

theorem notifySections (s : State) (notice : Option DisturbanceCause) (m : EntryIndex) :
    SamePoints s (s.notifySections notice m) := by
  rw [State.notifySections_eq]
  exact withSectionParts _ _

theorem present (s : State) (source : Station) (c : PointContent) : SamePoints s (s.present source c) := by
  rw [State.present_eq]
  exact ⟨rfl, rfl, rfl, rfl, id⟩

theorem enterHalted (s : State) (cause : HaltCause) : SamePoints s (s.enterHalted cause) := by
  by_cases h : s.mode = .halted
  · rw [State.enterHalted_again h]
    exact refl s
  · rw [State.enterHalted_eq h]
    exact ⟨rfl, rfl, rfl, rfl, by rintro (m | m) <;> cases m⟩

theorem enterMute (s : State) : SamePoints s s.enterMute :=
  ((withTx s _).trans (enterHalted _ _)).trans (driveAttn _)

theorem abortFrame (s : State) : SamePoints s s.abortFrame :=
  ite (enterMute s) ((withTx s _).trans (withTx _ _))

theorem spendStart (s : State) (f : Frame) : SamePoints s (s.spendStart f) := by
  rw [State.spendStart_eq]
  exact withTx _ _

theorem completeFrame (s : State) (lf : LayerFrame) : SamePoints s (s.completeFrame lf) :=
  (ite ((withTx s _).trans (withRx _ _)) (withTx s _)).trans (spendStart _ _)

theorem judgeFrame (s : State) (bytes : List Byte) : SamePoints s (s.judgeFrame bytes) := by
  have hunting := withRx s { s.rx.discard with sent := none }
  rcases s.judgeFrame_cases bytes with ⟨_, e⟩ | ⟨_, _, _, e⟩ | ⟨_, _, _, e⟩ | ⟨_, _, e⟩ <;> rw [e]
  · exact hunting
  · exact hunting
  · exact (hunting.trans (enterHalted _ _)).trans (driveAttn _)
  · exact hunting.trans (withRx _ _)

theorem takeCharacter (s : State) (b : Byte) : SamePoints s (s.takeCharacter b) := by
  rcases s.takeCharacter_cases b with ⟨_, _, e⟩ | ⟨_, e⟩ | ⟨_, _, e⟩ <;> rw [e]
  · exact withRx _ _
  · exact (withRx s _).trans (judgeFrame _ _)
  · exact withRx _ _

theorem finishHandling (s : State) : SamePoints s s.finishHandling := withRx _ _

/-- The end of a handling, where the frame's effect keeps the points. -/
theorem endHandling (s : State) (ofClass : Nat → Bool) {effect : Received → State → State}
    (keeps : ∀ f, SamePoints s (effect f s)) : SamePoints s (s.endHandling ofClass effect) := by
  rcases s.endHandling_cases ofClass effect with ⟨e, _⟩ | ⟨_, _, _, _, ⟨_, e⟩ | ⟨f, _, e⟩⟩ <;> rw [e]
  · exact refl s
  · exact finishHandling s
  · exact ((keeps f).trans (finishHandling _)).preempt_driveAttn

theorem handleCountReport (f : Received) (s : State) : SamePoints s (handleCountReport f s) := by
  cases f with
  | countReport source c => exact present s source c
  | _ => exact refl s

theorem handleSettleAnswer (f : Received) (s : State) : SamePoints s (handleSettleAnswer f s) := by
  cases f with
  | settleAnswer source requester n tag c =>
    exact ite ((present s source c).trans (applySection _ _ _)) (present s source c)
  | _ => exact refl s

theorem handleSettleRequest (f : Received) (s : State) : SamePoints s (handleSettleRequest f s) := by
  cases f with
  | settleRequest source n tag points =>
    refine orKept ?_
    rw [foldl_answerPoint_eq]
    exact withTx _ _
  | _ => exact refl s

theorem handleRestoreCommand (f : Received) (s : State) : SamePoints s (handleRestoreCommand f s) := by
  cases f with
  | restoreCommand source target n direct serial => exact orKept (applySection _ _ _)
  | _ => exact refl s

theorem expireAge (s : State) (m : EntryIndex) (e : MirrorEntry) : SamePoints s (s.expireAge m e) := by
  unfold State.expireAge
  split
  · exact ((setMirror s m _).trans (notifySections _ _ _)).preempt_driveAttn
  · exact refl s
  · exact refl s

theorem enterListening (s : State) : SamePoints s s.enterListening :=
  ⟨rfl, rfl, rfl, rfl, by rintro (m | m) <;> cases m⟩

theorem enterRunning (s : State) : SamePoints s s.enterRunning :=
  ⟨rfl, rfl, rfl, rfl, by rintro (m | m) <;> cases m⟩

/-- A step on an empty queue: a command is queued, or a microsecond passes (log 1). -/
theorem idleStep (s : State) : SamePoints s s.idleStep := by
  unfold State.idleStep
  split <;> exact ⟨rfl, rfl, rfl, rfl, id⟩

end SamePoints

/-- What a command can make of front end, records and configuration: nothing; their reset values; a sweep completion; a
configuration loaded in LOADING. -/
inductive PointsOutcome (s : State) : State → Prop where
  | same {t : State} (kept : SamePoints s t) : PointsOutcome s t
  | reset : PointsOutcome s s.toReset
  | swept (r : Results) : PointsOutcome s (s.completeSweep r)
  | loaded (image : List Byte) (loading : s.mode = .loading) (good : imageGood s.stationNumber image = true) :
      PointsOutcome s (s.loadImage image).driveAttn

/-- A row that names a sweep completion by what it brings about is the completion, or nothing (log 4). -/
theorem PointsOutcome.sweptOrKept (s : State) (r : Results) (c : Prop) [Decidable c] :
    PointsOutcome s (if c then s.completeSweep r else s) := by
  split
  · exact .swept r
  · exact .same (.refl s)

/-- Reset, sweep completions and the configuration read alone write front end, records or configuration. -/
theorem exec_pointsOutcome (c : Instr) {s t : State} (h : exec c s = .next t) : PointsOutcome s t := by
  cases c <;> obtain rfl := Host.Outcome.next.inj h
  case resetAssertion k =>
    split
    · exact .reset
    · exact .same (.refl s)
  case resetRelease straps =>
    refine .same ?_
    split
    · rename_i held
      refine .ite ((SamePoints.enterHalted s _).trans (.driveAttn _)) ?_
      exact ⟨rfl, rfl, rfl, rfl, fun _ => .inl held⟩
    · exact .refl s
  case configurationReadComplete levels =>
    split
    · rename_i reading
      split
      · rename_i good
        exact .loaded _ reading.1 good
      · exact .same ((SamePoints.enterHalted s _).trans (.driveAttn _))
    · exact .same (.refl s)
  case loadingTimerExpiry => exact .same (.orKept ((SamePoints.enterListening s).trans (.driveAttn _)))
  case listeningTimerExpiry => exact .same (.orKept ((SamePoints.enterRunning s).trans (.driveAttn _)))
  case sweepCompletion r => exact .swept r
  case filteredLevelChange r p ch => exact .sweptOrKept s r _
  case channelFaulted r p ch => exact .sweptOrKept s r _
  case channelRecovered r p ch => exact .sweptOrKept s r _
  case referenceFaulted r => exact .sweptOrKept s r _
  case referenceRecovered r => exact .sweptOrKept s r _
  case dwellEnd r p => exact .sweptOrKept s r _
  case toggleHalfPeriod r n => exact .sweptOrKept s r _
  case reportTimerExpiry p => exact .same (.orKept ((SamePoints.withTx s _).trans (.preempt _)))
  case statusTimerExpiry n => exact .same (.orKept ((SamePoints.withTx s _).trans (.preempt _)))
  case ageTimerExpiry m =>
    refine .same ?_
    split
    · exact .refl s
    · exact .orKept (.ite (.setMirror s m _) (.expireAge s m _))
  case deadlineExpiry n =>
    refine .same ?_
    split
    · exact .refl s
    · exact .orKept (SamePoints.applySection s n _).preempt_driveAttn
  case holdOffExpiry n =>
    refine .same ?_
    split
    · exact .refl s
    · exact .orKept (SamePoints.applySection s n _).preempt_driveAttn
  case nextLayerLoad => exact .same (.orKept (.loadNext s))
  case liveLayerMove => exact .same (.orKept (.withTx s _))
  case idleCompletion => exact .same (.orKept ((SamePoints.withRx s _).trans (.withTx _ _)))
  case arbitrationWon bits => exact .same (.orKept (.withTx s _))
  case lostArbitration bit samples => exact .same (.orKept (.withTx s _))
  case bitError position samples => exact .same (.orKept (.ite (.abortFrame s) (.orKept (.withTx s _))))
  case mute position samples => exact .same (.orKept (.enterMute s))
  case frameCompletion samples =>
    refine .same ?_
    split
    · exact .refl s
    · exact .orKept (.completeFrame s _)
  case framingError bit samples =>
    refine .same ?_
    split <;> exact .orKept (.withRx s _)
  case badLength data => exact .same (.orKept (.takeCharacter s _))
  case receiverFrameComplete data => exact .same (.orKept (.takeCharacter s _))
  case countReport => exact .same (.endHandling s _ fun f => .handleCountReport f s)
  case settleAnswer => exact .same (.endHandling s _ fun f => .handleSettleAnswer f s)
  case settleRequest => exact .same (.endHandling s _ fun f => .handleSettleRequest f s)
  case sectionStatus => exact .same (.endHandling s _ fun _ => .refl s)
  case restoreCommand => exact .same (.endHandling s _ fun f => .handleRestoreCommand f s)
  case startBit dominantSamples samples => exact .same (.orKept (.withRx s _))
  case characterComplete data => exact .same (.orKept (.takeCharacter s _))
  case class7FrameHandled => exact .same (.endHandling s _ fun _ => .refl s)

end Sys2Proof.Machine

namespace Sys2Proof.Machine

open Sys2Proof.Claims

/-! ### The commands of a sweep, as completions -/

theorem exec_sweepCompletion (r : Results) (s : State) :
    exec (.sweepCompletion r) s = .next (s.completeSweep r) := rfl

theorem exec_filteredLevelChange (r : Results) (p : PointIndex) (ch : ChannelName) (s : State) :
    exec (.filteredLevelChange r p ch) s = .next (if s.levelChangeIn r p ch then s.completeSweep r else s) := rfl

theorem exec_channelFaulted (r : Results) (p : PointIndex) (ch : ChannelName) (s : State) :
    exec (.channelFaulted r p ch) s = .next (if s.healthChangeIn r p ch .ok then s.completeSweep r else s) := rfl

theorem exec_channelRecovered (r : Results) (p : PointIndex) (ch : ChannelName) (s : State) :
    exec (.channelRecovered r p ch) s =
      .next (if s.healthChangeIn r p ch .faulted then s.completeSweep r else s) := rfl

theorem exec_referenceFaulted (r : Results) (s : State) :
    exec (.referenceFaulted r) s = .next (if s.referenceChangeIn r .ok then s.completeSweep r else s) := rfl

theorem exec_referenceRecovered (r : Results) (s : State) :
    exec (.referenceRecovered r) s = .next (if s.referenceChangeIn r .faulted then s.completeSweep r else s) := rfl

theorem State.levelChangeIn_iff {s : State} {r : Results} {p : PointIndex} {ch : ChannelName} :
    s.levelChangeIn r p ch = true ↔ ((s.sweepFront r).channel p ch).filtered ≠ (s.channel p ch).filtered := by
  rw [State.levelChangeIn, decide_eq_true_iff, ne_comm]

theorem State.healthChangeIn_iff {s : State} {r : Results} {p : PointIndex} {ch : ChannelName} {before : Health} :
    s.healthChangeIn r p ch before = true ↔
      (s.channel p ch).health = before ∧ ((s.sweepFront r).channel p ch).health ≠ before := by
  rw [State.healthChangeIn, Bool.and_eq_true, decide_eq_true_iff, decide_eq_true_iff]

theorem State.referenceChangeIn_iff {s : State} {r : Results} {before : Health} :
    s.referenceChangeIn r before = true ↔
      s.reference.health = before ∧ (s.sweepFront r).reference.health ≠ before := by
  rw [State.referenceChangeIn, Bool.and_eq_true, decide_eq_true_iff, decide_eq_true_iff]

/-! ### A channel at a sweep completion (R2 to R8) -/

theorem State.pointInUse_iff {s : State} {p : PointIndex} :
    s.pointInUse p = true ↔ ∃ cfg, s.pointConfig p = some cfg := by
  simp [State.pointInUse, Option.isSome_iff_exists]

theorem State.pointConfig_of_unused {s : State} {p : PointIndex} (h : s.pointInUse p = false) :
    s.pointConfig p = none := by
  simpa [State.pointInUse] using h

/-- A channel of an in-use point as the front end leaves it. -/
theorem State.sweepFront_channel {s : State} {p : PointIndex} {cfg : PointConfig} (used : s.pointConfig p = some cfg)
    (r : Results) (ch : ChannelName) :
    (s.sweepFront r).channel p ch = (s.channel p ch).sweep (td cfg ch) (tr cfg ch) s.deb (resultOf r p ch) := by
  unfold State.channel
  rw [State.sweepFront_get, used]
  cases ch <;> rfl

theorem State.completeSweep_channel {s : State} (h : s.mode.listens = true) (r : Results) (p : PointIndex)
    (ch : ChannelName) : (s.completeSweep r).channel p ch = (s.sweepFront r).channel p ch := by
  unfold State.channel
  rw [State.completeSweep_front h]

theorem Channel.sweep_sample (td tr deb : Nat) (a : Sample) (c : Channel) :
    (c.sweep td tr deb a).sample = some a := rfl

theorem Channel.sweep_raw (td tr deb : Nat) (a : Sample) (c : Channel) :
    (c.sweep td tr deb a).raw = classify td tr a c.raw := rfl

/-- R5, from the filtered levels before and after. -/
theorem Channel.sweep_onset (td tr deb : Nat) (a : Sample) (c : Channel) :
    (c.sweep td tr deb a).onset = onsetAge deb c.filtered (c.sweep td tr deb a).filtered c.onset := rfl

/-- Health and window counter follow the supervision alone (R9). -/
theorem Channel.sweep_verdict (td tr deb : Nat) (a : Sample) (c : Channel) :
    ((c.sweep td tr deb a).health, (c.sweep td tr deb a).window) =
      supervise (insideWindow a) c.health c.window := rfl

/-- R3, sample by sample. -/
theorem classify_cases (td tr : Nat) (a : Sample) (raw : Level) :
    (a.val ≤ td ∧ classify td tr a raw = .damped) ∨ (td < a.val ∧ tr ≤ a.val ∧ classify td tr a raw = .free) ∨
      (td < a.val ∧ a.val < tr ∧ classify td tr a raw = raw) := by
  unfold classify
  by_cases low : a.val ≤ td
  · exact .inl ⟨low, if_pos low⟩
  · by_cases high : tr ≤ a.val
    · exact .inr (.inl ⟨by omega, high, by rw [if_neg low, if_pos high]⟩)
    · exact .inr (.inr ⟨by omega, by omega, by rw [if_neg low, if_neg high]⟩)

/-- R4: the raw level agrees with the filtered one; a run completes; a run goes on. -/
theorem Channel.sweep_level_cases (td tr deb : Nat) (a : Sample) (c : Channel) :
    ((c.sweep td tr deb a).raw = c.filtered ∧ (c.sweep td tr deb a).run = 0 ∧
        (c.sweep td tr deb a).filtered = c.filtered) ∨
      ((c.sweep td tr deb a).raw ≠ c.filtered ∧ c.run + 1 = deb ∧ (c.sweep td tr deb a).run = 0 ∧
        (c.sweep td tr deb a).filtered = (c.sweep td tr deb a).raw) ∨
      ((c.sweep td tr deb a).raw ≠ c.filtered ∧ c.run + 1 ≠ deb ∧ (c.sweep td tr deb a).run = c.run + 1 ∧
        (c.sweep td tr deb a).filtered = c.filtered) := by
  unfold Channel.sweep levelChanges runLength
  by_cases agree : classify td tr a c.raw = c.filtered
  · simp [agree]
  · by_cases full : c.run + 1 = deb <;> simp [agree, full]

/-- The filtered level changes exactly where a run completes (R4). -/
theorem Channel.sweep_filtered_ne_iff (td tr deb : Nat) (a : Sample) (c : Channel) :
    (c.sweep td tr deb a).filtered ≠ c.filtered ↔
      classify td tr a c.raw ≠ c.filtered ∧ c.run + 1 = deb := by
  rw [← Channel.sweep_raw td tr deb]
  rcases c.sweep_level_cases td tr deb a with ⟨raw, _, kept⟩ | ⟨raw, full, _, taken⟩ | ⟨_, short, _, kept⟩
  · simp [raw, kept]
  · simp [taken, raw, full]
  · simp [kept, short]

@[simp] theorem onsetAge_free (deb : Nat) (before : Level) (onset : Nat) : onsetAge deb before .free onset = 0 := rfl

@[simp] theorem onsetAge_becomes (deb onset : Nat) : onsetAge deb .free .damped onset = deb - 1 := rfl

@[simp] theorem onsetAge_stays (deb onset : Nat) :
    onsetAge deb .damped .damped onset = min (onset + 1) 65535 := rfl

/-! ### Supervision (R7, R8, R10, R11) -/

theorem insideWindow_iff (a : Sample) : insideWindow a = true ↔ inWindow a := by
  rw [insideWindow, Bool.and_eq_true, decide_eq_true_iff, decide_eq_true_iff]
  rfl

theorem insideBand_iff (a : Sample) : insideBand a = true ↔ inBand a := by
  rw [insideBand, Bool.and_eq_true, decide_eq_true_iff, decide_eq_true_iff]
  rfl

/-- The six cases of supervision, with the place of the sample in words of `within`. -/
theorem supervise_cases {within : Prop} {inside : Bool} (place : inside = true ↔ within) {before after : Health}
    {window window' : Nat} (verdict : (after, window') = supervise inside before window) :
    (before = .ok → within → after = .ok ∧ window' = 0) ∧
    (before = .ok → ¬ within → window + 1 = 50 → after = .faulted ∧ window' = 0) ∧
    (before = .ok → ¬ within → window + 1 ≠ 50 → after = .ok ∧ window' = window + 1) ∧
    (before = .faulted → ¬ within → after = .faulted ∧ window' = 0) ∧
    (before = .faulted → within → window + 1 = 25000 → after = .ok ∧ window' = 0) ∧
    (before = .faulted → within → window + 1 ≠ 25000 → after = .faulted ∧ window' = window + 1) := by
  rw [← place]
  have unfolded := Prod.ext_iff.1 verdict
  unfold supervise at unfolded
  cases before <;> cases inside <;> simp_all [Config.faultPersistence, Config.recoveryPersistence]

/-- A window counter below its persistence stays below the persistence of the health it leaves. -/
theorem supervise_range {inside : Bool} {before after : Health} {window window' : Nat}
    (verdict : (after, window') = supervise inside before window)
    (ok : before = .ok → window < Config.faultPersistence)
    (faulted : before = .faulted → window < Config.recoveryPersistence) :
    (after = .ok → window' < Config.faultPersistence) ∧ (after = .faulted → window' < Config.recoveryPersistence) := by
  obtain ⟨okIn, okFull, okOut, badOut, badFull, badIn⟩ := supervise_cases (Iff.refl _) verdict
  simp only [Config.faultPersistence, Config.recoveryPersistence] at *
  cases before <;> cases inside <;> grind

/-! ### A record at a sweep completion (R19) -/

/-- The record of an in-use point after a completion is evaluated on what the front end then hands over (R6, R19). -/
theorem State.completeSweep_record {s : State} (h : s.mode.listens = true) {p : PointIndex} {cfg : PointConfig}
    (used : s.pointConfig p = some cfg) (r : Results) :
    (s.completeSweep r).records.get p =
      (s.records.get p).evaluate cfg s.dwellLength ((s.completeSweep r).handOver p) := by
  have handed : (s.completeSweep r).handOver p = (s.sweepFront r).handOver p := by
    unfold State.handOver
    rw [State.completeSweep_front h, State.completeSweep_reference h, State.sweepFront_reference]
  have used' : (s.sweepFront r).pointConfig p = some cfg := used
  rw [State.completeSweep_records h, State.sweepRecords_get, State.evaluatedRecord, used', handed]
  rfl

/-- The record of a point not in use is kept (R37). -/
theorem State.completeSweep_record_unused {s : State} {p : PointIndex} (unused : s.pointConfig p = none) (r : Results) :
    (s.completeSweep r).records.get p = s.records.get p := by
  cases h : s.mode.listens
  · rw [State.completeSweep_silent h]
  · have unused' : (s.sweepFront r).pointConfig p = none := unused
    rw [State.completeSweep_records h, State.sweepRecords_get, State.evaluatedRecord, unused']
    rfl

theorem HandOver.faulted_iff (h : HandOver) :
    h.faulted = true ↔ h.healthA = .faulted ∨ h.healthB = .faulted ∨ h.healthReference = .faulted := by
  simp [HandOver.faulted, or_assoc]

theorem State.handOver_faulted_iff (s : State) (p : PointIndex) :
    (s.handOver p).faulted = true ↔ (s.front.get p).a.health = .faulted ∨ (s.front.get p).b.health = .faulted ∨
      s.reference.health = .faulted := HandOver.faulted_iff _

theorem Health.ne_ok_iff (h : Health) : h ≠ .ok ↔ h = .faulted := by cases h <;> simp

/-- What the front end hands over shows a fault exactly where one of the point's three healths is not OK. -/
theorem State.handOver_faulted_iff_not_healthy (s : State) (p : PointIndex) :
    (s.handOver p).faulted = true ↔ ¬ healthy s p := by
  rw [State.handOver_faulted_iff]
  simp only [healthy, ← Health.ne_ok_iff]
  tauto

theorem conditionOf_faulted_iff (state : RecognizerState) (h : HandOver) :
    conditionOf state h = .faulted ↔ h.faulted = true := by
  unfold conditionOf
  cases h.faulted
  · by_cases b : state = .blocked <;> simp [b]
  · simp

theorem HandOver.quiet_of_faulted {h : HandOver} (bad : h.faulted = true) : h.quiet = false := by
  simp [HandOver.quiet, bad]

/-- A fault leaves a record BLOCKED with its dwell at 0, and the rest as it was but for the lag (R24, R25). -/
theorem PointRecord.takeLevels_of_faulted (cfg : PointConfig) (d : Nat) {h : HandOver} (bad : h.faulted = true)
    (r : PointRecord) :
    r.takeLevels cfg d h = { r with state := .blocked, dwell := 0, lag := (r.takeLevels cfg d h).lag } := by
  rcases r.takeLevels_cases cfg d h with ⟨blocked, e⟩ | ⟨_, _, e⟩ | ⟨_, good, _⟩
  · rcases r.takeDwell_cases d h with ⟨_, e'⟩ | ⟨quiet, _⟩ | ⟨quiet, _⟩
    · rw [e, e', ← blocked]
    · simp [HandOver.quiet_of_faulted bad] at quiet
    · simp [HandOver.quiet_of_faulted bad] at quiet
  · rw [e]; rfl
  · simp [bad] at good

/-- No passage is counted at a fault, so none is too fast (R24, R30). -/
theorem PointRecord.overspeeds_of_faulted (cfg : PointConfig) {h : HandOver} (bad : h.faulted = true)
    (r : PointRecord) : r.overspeeds cfg h = false := by
  simp [PointRecord.overspeeds, PointRecord.countsPassage, bad]

/-- A fault at a completion: the whole record (R24, R33 to R35). -/
theorem PointRecord.evaluate_of_faulted (cfg : PointConfig) (d : Nat) {h : HandOver} (bad : h.faulted = true)
    (r : PointRecord) :
    r.evaluate cfg d h =
      { r with
        state := .blocked, condition := .faulted, head := .wheelOn, dwell := 0
        lag := (r.evaluate cfg d h).lag
        serial := if r.condition = .normal then r.serial + 1 else r.serial } := by
  have levels := r.takeLevels_of_faulted cfg d bad
  unfold PointRecord.evaluate
  generalize r.takeLevels cfg d h = settled at levels
  obtain ⟨lag, rfl⟩ : ∃ lag, settled = { r with state := .blocked, dwell := 0, lag := lag } := ⟨_, levels⟩
  have faulted := (conditionOf_faulted_iff .blocked h).2 bad
  simp [faulted, headOf, advanceSerial, r.overspeeds_of_faulted cfg bad]

end Sys2Proof.Machine

namespace Sys2Proof.Machine

open Sys2Proof.Claims

/-! ### The front end's statements -/

@[simp] theorem State.reset_channel (p : PointIndex) (ch : ChannelName) : State.reset.channel p ch = .reset := by
  unfold State.channel State.reset
  cases ch <;> simp [PointChannels.channel]

/-- A channel of an in-use point after the whole completion. -/
theorem State.completeSweep_channel_used {s : State} (h : s.mode.listens = true) {p : PointIndex} {cfg : PointConfig}
    (used : s.pointConfig p = some cfg) (r : Results) (ch : ChannelName) :
    (s.completeSweep r).channel p ch =
      (s.channel p ch).sweep (td cfg ch) (tr cfg ch) s.deb (resultOf r p ch) := by
  rw [State.completeSweep_channel h, State.sweepFront_channel used]

/-- Settles O4: the raw level is `classify`'s, whose three cases R3 names. -/
theorem rawLevelFollowsThresholds : Obligations.RawLevelFollowsThresholds := by
  refine ⟨fun p ch => by simp [Channel.reset], ?_⟩
  intro s r p ch cfg listens used tdLow gap trHigh
  refine ⟨_, exec_sweepCompletion r s, ?_⟩
  rw [State.completeSweep_channel_used listens used, Channel.sweep_raw]
  rcases classify_cases (td cfg ch) (tr cfg ch) (resultOf r p ch) (s.channel p ch).raw with
    ⟨low, e⟩ | ⟨low, high, e⟩ | ⟨low, high, e⟩ <;> rw [e]
  · exact ⟨fun _ => rfl, by omega, by omega, fun _ => rfl, by omega⟩
  · exact ⟨by omega, fun _ => rfl, by omega, by omega, fun _ => rfl⟩
  · exact ⟨by omega, by omega, fun _ _ => rfl, by omega, by omega⟩

/-- Settles O5, by the three cases of R4. -/
theorem filteredLevelAndOnsetAge : Obligations.FilteredLevelAndOnsetAge := by
  refine ⟨fun p ch => by simp [Channel.reset], ?_⟩
  intro s r p ch listens inUse
  obtain ⟨cfg, used⟩ := State.pointInUse_iff.1 inUse
  refine ⟨_, exec_sweepCompletion r s, ?_⟩
  rw [State.completeSweep_channel_used listens used]
  have onset := (s.channel p ch).sweep_onset (td cfg ch) (tr cfg ch) s.deb (resultOf r p ch)
  have levels := (s.channel p ch).sweep_level_cases (td cfg ch) (tr cfg ch) s.deb (resultOf r p ch)
  generalize (s.channel p ch).sweep (td cfg ch) (tr cfg ch) s.deb (resultOf r p ch) = c' at onset levels
  have ages : ((s.channel p ch).filtered = .free → c'.filtered = .damped → c'.onset = s.deb - 1) ∧
      ((s.channel p ch).filtered = .damped → c'.filtered = .damped →
        c'.onset = min ((s.channel p ch).onset + 1) 65535) ∧ (c'.filtered = .free → c'.onset = 0) := by
    rw [onset]
    refine ⟨fun before after => ?_, fun before after => ?_, fun after => ?_⟩
    · rw [before, after, onsetAge_becomes]
    · rw [before, after, onsetAge_stays]
    · rw [after, onsetAge_free]
  rcases levels with ⟨raw, run, kept⟩ | ⟨raw, full, run, taken⟩ | ⟨raw, short, run, kept⟩
  · exact ⟨fun _ => ⟨run, kept⟩, fun h => absurd raw h, fun h => absurd raw h, by omega, ages⟩
  · exact ⟨fun h => absurd h raw, fun _ _ => ⟨run, taken⟩, fun _ h => absurd full h, by omega, ages⟩
  · exact ⟨fun h => absurd h raw, fun _ h => absurd h short, fun _ _ => ⟨run, kept⟩, by omega, ages⟩

/-- The event of FILTERED_LEVEL_CHANGE: the sweep completes a run of the channel (R4, log 3). -/
theorem State.levelChangeIn_used_iff {s : State} {p : PointIndex} {cfg : PointConfig}
    (used : s.pointConfig p = some cfg) (r : Results) (ch : ChannelName) :
    s.levelChangeIn r p ch = true ↔
      classify (td cfg ch) (tr cfg ch) (resultOf r p ch) (s.channel p ch).raw ≠ (s.channel p ch).filtered ∧
        (s.channel p ch).run + 1 = s.deb := by
  rw [State.levelChangeIn_iff, State.sweepFront_channel used, Channel.sweep_filtered_ne_iff]

/-- Settles O6: the filtered level changes exactly where a run completes. -/
theorem filteredLevelChangeCompletes : Obligations.FilteredLevelChangeCompletes := by
  intro s r p ch cfg listens used
  have changes := State.levelChangeIn_used_iff used r ch
  constructor
  · intro full differs
    refine ⟨s.completeSweep r, ?_, exec_sweepCompletion r s, ?_⟩
    · rw [exec_filteredLevelChange, if_pos (changes.2 ⟨differs, full⟩)]
    · rw [State.completeSweep_channel_used listens used]
      have onset := (s.channel p ch).sweep_onset (td cfg ch) (tr cfg ch) s.deb (resultOf r p ch)
      rcases (s.channel p ch).sweep_level_cases (td cfg ch) (tr cfg ch) s.deb (resultOf r p ch) with
        ⟨raw, _⟩ | ⟨raw, _, run, taken⟩ | ⟨_, short, _⟩
      · exact absurd raw differs
      · refine ⟨rfl, taken ▸ raw, taken, run, ?_⟩
        rw [onset]
        rw [← taken] at raw
        generalize ((s.channel p ch).sweep (td cfg ch) (tr cfg ch) s.deb (resultOf r p ch)).filtered = after at raw ⊢
        cases after
        · rfl
        · cases before : (s.channel p ch).filtered
          · rfl
          · exact absurd before.symm raw
      · exact absurd full short
  · intro short
    rw [exec_filteredLevelChange, if_neg fun h => short (changes.1 h).2]

/-- Settles O7, by the six cases of `supervise` at the window of a channel. -/
theorem channelSupervision : Obligations.ChannelSupervision := by
  refine ⟨fun p ch => by simp [Channel.reset], ?_⟩
  intro s r p ch listens inUse
  obtain ⟨cfg, used⟩ := State.pointInUse_iff.1 inUse
  refine ⟨_, exec_sweepCompletion r s, ?_⟩
  rw [State.completeSweep_channel_used listens used]
  exact supervise_cases (insideWindow_iff _) (Channel.sweep_verdict _ _ _ _ _)

/-- Settles O8, by the six cases of `supervise` at the tolerance band of the reference. -/
theorem referenceSupervision : Obligations.ReferenceSupervision := by
  refine ⟨⟨rfl, rfl⟩, ?_⟩
  intro s r listens
  refine ⟨_, exec_sweepCompletion r s, ?_⟩
  rw [State.completeSweep_reference listens]
  exact ⟨rfl, supervise_cases (insideBand_iff _) rfl⟩

/-- An in-use point that is handed a fault at a completion (R24, R33 to R35). -/
theorem State.completeSweep_record_of_faulted {s : State} (listens : s.mode.listens = true) {p : PointIndex}
    {cfg : PointConfig} (used : s.pointConfig p = some cfg) {r : Results}
    (bad : ((s.completeSweep r).handOver p).faulted = true) :
    (s.completeSweep r).records.get p =
      { s.records.get p with
        state := .blocked, condition := .faulted, head := .wheelOn, dwell := 0
        lag := ((s.completeSweep r).records.get p).lag
        serial :=
          if (s.records.get p).condition = .normal then (s.records.get p).serial + 1
          else (s.records.get p).serial } := by
  rw [State.completeSweep_record listens used]
  exact PointRecord.evaluate_of_faulted cfg s.dwellLength bad _

/-- An in-use point is FAULTED exactly while some health it is handed is (R33). -/
theorem State.completeSweep_condition_faulted_iff {s : State} (listens : s.mode.listens = true) {p : PointIndex}
    {cfg : PointConfig} (used : s.pointConfig p = some cfg) (r : Results) :
    ((s.completeSweep r).records.get p).condition = .faulted ↔
      ((s.completeSweep r).handOver p).faulted = true := by
  rw [State.completeSweep_record listens used, PointRecord.evaluate_condition, conditionOf_faulted_iff]

/-- A FAULTED channel is a fault for its point. -/
theorem State.handOver_faulted_of_channel {s : State} {p : PointIndex} {ch : ChannelName}
    (bad : (s.channel p ch).health = .faulted) : (s.handOver p).faulted = true := by
  rw [State.handOver_faulted_iff]
  cases ch
  · exact .inl bad
  · exact .inr (.inl bad)

/-- Settles O9: the two rows are completions, by `supervise`, and the record follows by R24 and R33. -/
theorem channelFaultCommands : Obligations.ChannelFaultCommands := by
  intro s r p ch listens inUse
  obtain ⟨cfg, used⟩ := State.pointInUse_iff.1 inUse
  have swept := State.completeSweep_channel listens r p ch
  have verdict := supervise_cases (insideWindow_iff (resultOf r p ch))
    (Channel.sweep_verdict (td cfg ch) (tr cfg ch) s.deb (resultOf r p ch) (s.channel p ch))
  rw [← State.sweepFront_channel used r ch] at verdict
  obtain ⟨_, faults, _, _, recovers, _⟩ := verdict
  constructor
  · intro ok outside count
    obtain ⟨health, window⟩ := faults ok outside (by omega)
    have happens : s.healthChangeIn r p ch .ok = true := State.healthChangeIn_iff.2 ⟨ok, by simp [health]⟩
    refine ⟨s.completeSweep r, by rw [exec_channelFaulted, if_pos happens], exec_sweepCompletion r s, ?_⟩
    rw [swept]
    have bad : ((s.completeSweep r).handOver p).faulted = true :=
      State.handOver_faulted_of_channel (ch := ch) (by rw [swept, health])
    rw [State.completeSweep_record_of_faulted listens used bad]
    exact ⟨health, window, rfl, rfl, rfl, rfl, rfl, rfl, rfl, fun n => if_pos n, fun n => if_neg n⟩
  · intro faulted inside count
    obtain ⟨health, window⟩ := recovers faulted inside (by omega)
    have happens : s.healthChangeIn r p ch .faulted = true := State.healthChangeIn_iff.2 ⟨faulted, by simp [health]⟩
    refine ⟨s.completeSweep r, by rw [exec_channelRecovered, if_pos happens], exec_sweepCompletion r s, ?_⟩
    rw [swept, State.completeSweep_condition_faulted_iff listens used, State.handOver_faulted_iff_not_healthy]
    exact ⟨health, window, Iff.rfl⟩

/-- Settles O10: the two rows are completions, by `supervise`, and every record follows by R12, R24 and R33. -/
theorem referenceFaultCommands : Obligations.ReferenceFaultCommands := by
  intro s r listens
  have swept := State.completeSweep_reference listens r
  obtain ⟨_, faults, _, _, recovers, _⟩ := supervise_cases (insideBand_iff r.reference)
    (rfl : ((s.reference.sweep r.reference).health, (s.reference.sweep r.reference).window) = _)
  constructor
  · intro ok outside count
    obtain ⟨health, window⟩ := faults ok outside (by omega)
    have happens : s.referenceChangeIn r .ok = true := State.referenceChangeIn_iff.2 ⟨ok, by simp [health]⟩
    refine ⟨s.completeSweep r, by rw [exec_referenceFaulted, if_pos happens], exec_sweepCompletion r s,
      by rw [swept, health], by rw [swept, window], fun p inUse => ?_⟩
    obtain ⟨cfg, used⟩ := State.pointInUse_iff.1 inUse
    have bad : ((s.completeSweep r).handOver p).faulted = true :=
      (State.handOver_faulted_iff _ _).2 (.inr (.inr (by rw [swept, health])))
    rw [State.completeSweep_record_of_faulted listens used bad]
    exact ⟨rfl, rfl, rfl, fun n => if_pos n⟩
  · intro faulted inside count
    obtain ⟨health, window⟩ := recovers faulted inside (by omega)
    have happens : s.referenceChangeIn r .faulted = true :=
      State.referenceChangeIn_iff.2 ⟨faulted, by simp [health]⟩
    refine ⟨s.completeSweep r, by rw [exec_referenceRecovered, if_pos happens], exec_sweepCompletion r s,
      by rw [swept, health], by rw [swept, window], fun p inUse => ?_⟩
    obtain ⟨cfg, used⟩ := State.pointInUse_iff.1 inUse
    rw [State.completeSweep_condition_faulted_iff listens used, State.handOver_faulted_iff, swept, health]
    simp

end Sys2Proof.Machine

namespace Sys2Proof.Machine

open Sys2Proof.Claims

/-! ### Front end and records in agreement: the parts of one sweep -/

/-- A completion keeps the quantities of a channel in their ranges (R4, R5, R7, R8). -/
theorem ChannelSound.sweep {deb : Nat} {c : Channel} (sound : ChannelSound deb c) (low : 2 ≤ deb) (high : deb ≤ 8)
    (td tr : Nat) (a : Sample) : ChannelSound deb (c.sweep td tr deb a) := by
  have run := sound.run
  have onset := c.sweep_onset td tr deb a
  have window := supervise_range (c.sweep_verdict td tr deb a) sound.ok sound.faulted
  have levels := c.sweep_level_cases td tr deb a
  generalize c.sweep td tr deb a = c' at onset window levels
  constructor
  case run => omega
  case agreed =>
    intro agree
    rcases levels with ⟨_, zero, _⟩ | ⟨_, _, zero, _⟩ | ⟨raw, _, _, kept⟩
    · exact zero
    · exact zero
    · exact absurd (agree.trans kept) raw
  case free =>
    intro after
    rw [onset, after, onsetAge_free]
  case damped =>
    intro after
    rw [onset, after, Config.saturated]
    cases before : c.filtered
    · rw [onsetAge_becomes]
      omega
    · have aged := sound.damped before
      rw [onsetAge_stays]
      omega
  case ok => exact window.1
  case faulted => exact window.2

/-- R27: below resolution, or the difference of the onset ages. -/
theorem capturedLag_cases (first second : Nat) :
    (first = Config.saturated ∧ capturedLag first second = Config.saturated) ∨
      (first ≠ Config.saturated ∧ capturedLag first second = first - second) := by
  unfold capturedLag
  by_cases full : first = Config.saturated
  · exact .inl ⟨full, if_pos full⟩
  · exact .inr ⟨full, if_neg full⟩

/-- The lag captured where the second channel becomes damped while the first stays so: the first has been damped for at
least one sweep longer (R5, R27). -/
theorem capturedLag_range {deb : Nat} (low : 2 ≤ deb) {first first' second second' : Channel}
    (sound : ChannelSound deb first) (sound' : ChannelSound deb first') (before : first.filtered = .damped)
    (after : first'.filtered = .damped) (free : second.filtered = .free) (damped : second'.filtered = .damped)
    (onset : first'.onset = onsetAge deb first.filtered first'.filtered first.onset)
    (onset' : second'.onset = onsetAge deb second.filtered second'.filtered second.onset) :
    1 ≤ capturedLag first'.onset second'.onset ∧ capturedLag first'.onset second'.onset ≤ Config.saturated := by
  have aged := sound.damped before
  have range := (sound'.damped after).2
  rw [before, after, onsetAge_stays] at onset
  rw [free, damped, onsetAge_becomes] at onset'
  rcases capturedLag_cases first'.onset second'.onset with ⟨_, e⟩ | ⟨_, e⟩ <;> rw [e]
  · exact ⟨by decide, le_rfl⟩
  · simp only [Config.saturated] at *
    omega

/-- What the levels and the dwell settle of a record: all of `RecordSound` but condition and head. -/
structure LevelsSound (dwellLength : Nat) (h : HandOver) (r : PointRecord) : Prop where
  levels : ∀ p ∈ r.state.pair, h.filteredA = p.1 ∧ h.filteredB = p.2
  healthy : r.state ≠ .blocked → h.faulted = false
  lagged : r.lag.isSome = r.state.carriesLag
  lagRange : ∀ l ∈ r.lag, 1 ≤ l ∧ l ≤ Config.saturated
  dwell : r.dwell < dwellLength
  dwellBlocked : r.state ≠ .blocked → r.dwell = 0
  speed : ∀ l ∈ r.last, l.speed ≤ Config.speedLimit

/-- An entry to BLOCKED (R23). -/
theorem LevelsSound.block {d : Nat} (positive : 0 < d) {r : PointRecord}
    (speed : ∀ l ∈ r.last, l.speed ≤ Config.speedLimit) (h : HandOver) : LevelsSound d h r.block where
  levels := fun _ q => nomatch q
  healthy := fun n => absurd rfl n
  lagged := rfl
  lagRange := fun _ q => nomatch q
  dwell := positive
  dwellBlocked := fun n => absurd rfl n
  speed := speed

/-- A completion in BLOCKED (R25). -/
theorem LevelsSound.takeDwell {d : Nat} (positive : 0 < d) {h₀ : HandOver} {r : PointRecord}
    (sound : RecordSound d h₀ r) (blocked : r.state = .blocked) (h : HandOver) :
    LevelsSound d h (r.takeDwell d h) := by
  have lag : r.lag = none := by simpa [blocked, RecognizerState.carriesLag] using sound.lagged
  have short := sound.dwell
  rcases r.takeDwell_cases d h with ⟨_, e⟩ | ⟨quiet, _, e⟩ | ⟨_, more, e⟩ <;> rw [e]
  · constructor <;> simp [blocked, lag, RecognizerState.pair, RecognizerState.carriesLag, positive]
    exact sound.speed
  · obtain ⟨⟨a, b⟩, good⟩ : (h.filteredA = .free ∧ h.filteredB = .free) ∧ h.faulted = false := by
      simpa [HandOver.quiet] using quiet
    constructor <;> simp [a, b, good, lag, RecognizerState.pair, RecognizerState.carriesLag, positive]
    exact sound.speed
  · constructor <;> simp [blocked, lag, RecognizerState.pair, RecognizerState.carriesLag]
    · omega
    · exact sound.speed

/-- What a row of the pair tables does to a record. -/
def PointRecord.applyRow (spacing : Nat) (h : HandOver) (row : PairRow) (r : PointRecord) : PointRecord :=
  match row.effect with
  | .keep => r.pass row.target
  | .capture =>
    { r with
      state := row.target
      lag := some (if row.source = .leadA then capturedLag h.onsetA h.onsetB else capturedLag h.onsetB h.onsetA) }
  | .drop => r.back row.target
  | .count => r.countPassage spacing (if row.source = .trailA then .ab else .ba)
  | .block => r.block

/-- Outside BLOCKED the pair is evaluated by the row of the tables for it (R20 to R22). -/
theorem PointRecord.takePair_eq_applyRow (spacing : Nat) {h : HandOver} {r : PointRecord} :
    ∀ row ∈ pairTable, r.state = row.source → h.filteredA = row.a → h.filteredB = row.b →
      r.takePair spacing h = r.applyRow spacing h row := by
  obtain ⟨state, nAB, nBA, serial, condition, head, last, lag, dwell⟩ := r
  obtain ⟨a, b, onsetA, onsetB, healthA, healthB, healthReference⟩ := h
  simp only [pairTable, List.forall_mem_cons]
  refine ⟨?_, ?_, ?_, ?_, ?_, ?_, ?_, ?_, ?_, ?_, ?_, ?_, ?_, ?_, ?_, ?_, ?_, ?_, ?_, ?_, ?_, ?_, ?_, ?_, ?_, ?_, ?_,
    ?_, fun _ q => nomatch q⟩ <;> (rintro rfl rfl rfl; rfl)

/-- Every pair has its row in every state but BLOCKED. -/
theorem exists_pairRow {state : RecognizerState} (unblocked : state ≠ .blocked) (a b : Level) :
    ∃ row ∈ pairTable, state = row.source ∧ a = row.a ∧ b = row.b := by
  revert unblocked
  cases state <;> cases a <;> cases b <;> decide

/-- The rows, by their effect: what the target state says of the pair and of the lag, and where a lag is captured. -/
theorem pairTable_sound : ∀ row ∈ pairTable,
    (row.effect = .keep →
      row.target.pair = some (row.a, row.b) ∧ row.target.carriesLag = row.source.carriesLag) ∧
    (row.effect = .capture →
      row.target.pair = some (row.a, row.b) ∧ row.target.carriesLag = true ∧ row.a = .damped ∧ row.b = .damped ∧
        (row.source = .leadA ∨ row.source = .leadB)) ∧
    (row.effect = .drop → row.target.pair = some (row.a, row.b) ∧ row.target.carriesLag = false) ∧
    (row.effect = .count → row.a = .free ∧ row.b = .free) := by
  decide

/-- A new state that fits the pair, with a lag exactly where the state carries one (R28). -/
theorem LevelsSound.enter {d : Nat} {h₀ h : HandOver} {r : PointRecord} (sound : RecordSound d h₀ r)
    (unblocked : r.state ≠ .blocked) (good : h.faulted = false) {state : RecognizerState} {lag : Option Nat}
    (pair : state.pair = some (h.filteredA, h.filteredB)) (lagged : lag.isSome = state.carriesLag)
    (lagRange : ∀ l ∈ lag, 1 ≤ l ∧ l ≤ Config.saturated) :
    LevelsSound d h { r with state := state, lag := lag } where
  levels := by
    intro q e
    rw [pair] at e
    cases e
    exact ⟨rfl, rfl⟩
  healthy := fun _ => good
  lagged := lagged
  lagRange := lagRange
  dwell := sound.dwell
  dwellBlocked := fun _ => sound.dwellBlocked unblocked
  speed := sound.speed

/-- The pair of levels, evaluated on a record that agreed with the pair before; a lag captured now lies in its range
(R20 to R22, R27, R28, R31). -/
theorem LevelsSound.takePair {d : Nat} (positive : 0 < d) {h₀ h : HandOver} {r : PointRecord}
    (sound : RecordSound d h₀ r) (unblocked : r.state ≠ .blocked) (good : h.faulted = false)
    (lagA : h₀.filteredA = .damped → h₀.filteredB = .free → h.filteredA = .damped → h.filteredB = .damped →
      1 ≤ capturedLag h.onsetA h.onsetB ∧ capturedLag h.onsetA h.onsetB ≤ Config.saturated)
    (lagB : h₀.filteredB = .damped → h₀.filteredA = .free → h.filteredB = .damped → h.filteredA = .damped →
      1 ≤ capturedLag h.onsetB h.onsetA ∧ capturedLag h.onsetB h.onsetA ≤ Config.saturated)
    (spacing : Nat) : LevelsSound d h (r.takePair spacing h) := by
  obtain ⟨row, mem, state, a, b⟩ := exists_pairRow unblocked h.filteredA h.filteredB
  rw [PointRecord.takePair_eq_applyRow spacing row mem state a b]
  obtain ⟨keeps, captures, drops, counts⟩ := pairTable_sound row mem
  have lagged := sound.lagged
  rw [← a, ← b] at keeps captures drops counts
  rw [← state] at keeps captures
  unfold PointRecord.applyRow
  cases effect : row.effect <;> dsimp only
  case keep =>
    obtain ⟨pair, carries⟩ := keeps effect
    exact .enter sound unblocked good pair (lagged.trans carries.symm) sound.lagRange
  case capture =>
    obtain ⟨pair, carries, dampedA, dampedB, lead⟩ := captures effect
    rw [← state]
    refine .enter sound unblocked good pair carries.symm ?_
    rintro l ⟨⟩
    rcases lead with lead | lead <;> have was := sound.levels _ (by rw [lead]; rfl)
    · rw [if_pos lead]
      exact lagA was.1 was.2 dampedA dampedB
    · rw [if_neg (by rw [lead]; decide)]
      exact lagB was.2 was.1 dampedB dampedA
  case drop =>
    obtain ⟨pair, carries⟩ := drops effect
    exact .enter sound unblocked good pair carries.symm (fun _ q => nomatch q)
  case count =>
    obtain ⟨freeA, freeB⟩ := counts effect
    have entered : LevelsSound d h { r with state := .idle, lag := none } :=
      .enter sound unblocked good (by rw [freeA, freeB]; rfl) rfl (fun _ q => nomatch q)
    exact { entered with speed := by rintro l ⟨⟩; exact Nat.min_le_right _ _ }
  case block => exact .block positive sound.speed h

/-- One evaluation of a record that agreed with the hand-over before (R19). -/
theorem RecordSound.evaluate {d : Nat} (positive : 0 < d) {h₀ h : HandOver} {r : PointRecord}
    (sound : RecordSound d h₀ r)
    (lagA : h₀.filteredA = .damped → h₀.filteredB = .free → h.filteredA = .damped → h.filteredB = .damped →
      1 ≤ capturedLag h.onsetA h.onsetB ∧ capturedLag h.onsetA h.onsetB ≤ Config.saturated)
    (lagB : h₀.filteredB = .damped → h₀.filteredA = .free → h.filteredB = .damped → h.filteredA = .damped →
      1 ≤ capturedLag h.onsetB h.onsetA ∧ capturedLag h.onsetB h.onsetA ≤ Config.saturated)
    (cfg : PointConfig) : RecordSound d h (r.evaluate cfg d h) := by
  have settled : LevelsSound d h (r.takeLevels cfg d h) := by
    rcases r.takeLevels_cases cfg d h with ⟨blocked, e⟩ | ⟨_, _, e⟩ | ⟨unblocked, good, e⟩ <;> rw [e]
    · exact .takeDwell positive sound blocked h
    · exact .block positive sound.speed h
    · exact .takePair positive sound unblocked good lagA lagB cfg.spacing
  exact { condition := rfl, head := rfl, levels := settled.levels, healthy := settled.healthy
          lagged := settled.lagged, lagRange := settled.lagRange, dwell := settled.dwell
          dwellBlocked := settled.dwellBlocked, speed := settled.speed }

/-! ### Front end and records in agreement: the state -/

/-- What a command leaves alone stays sound. -/
theorem PointsSound.of_same {s t : State} (same : SamePoints s t) (sound : PointsSound s) : PointsSound t := by
  obtain ⟨front, reference, records, config, rests⟩ := same
  have inUse := fun p => State.pointInUse_congr config p
  have handed : ∀ p, t.handOver p = s.handOver p := by
    intro p
    unfold State.handOver
    rw [front, reference]
  constructor
  case deb => rw [config]; exact sound.deb
  case dwell => rw [config]; exact sound.dwell
  case resting =>
    intro rest
    rw [front, records, reference]
    exact sound.resting (rests rest)
  case unused =>
    intro p unused
    rw [front, records]
    exact sound.unused p (inUse p ▸ unused)
  case channels =>
    intro p used
    rw [front, State.deb_congr config]
    exact sound.channels p (inUse p ▸ used)
  case records =>
    intro p used
    rw [records, handed, State.dwellLength_congr config]
    exact sound.records p (inUse p ▸ used)
  case reference => rw [reference]; exact sound.reference
  case referenceFaulted => rw [reference]; exact sound.referenceFaulted

/-- A point in use has a debounce length of 2 to 8 and a dwell length that is not 0 (R4, R25). -/
theorem State.lengths_of_config {s : State} (deb : ∀ c ∈ s.config, 2 ≤ c.deb ∧ c.deb ≤ 8)
    (dwell : ∀ c ∈ s.config, 1 ≤ c.dwellCode ∧ c.dwellCode ≤ 50) {p : PointIndex} (used : s.pointInUse p = true) :
    2 ≤ s.deb ∧ s.deb ≤ 8 ∧ 0 < s.dwellLength := by
  unfold State.deb State.dwellLength
  cases config : s.config with
  | none => simp [State.pointInUse, State.pointConfig, config] at used
  | some c => exact ⟨(deb c config).1, (deb c config).2, Nat.mul_pos (by decide) (dwell c config).1⟩

theorem PointsSound.lengths {s : State} (sound : PointsSound s) {p : PointIndex} (used : s.pointInUse p = true) :
    2 ≤ s.deb ∧ s.deb ≤ 8 ∧ 0 < s.dwellLength := State.lengths_of_config sound.deb sound.dwell used

@[simp] theorem State.reset_front_get (p : PointIndex) :
    State.reset.front.get p = { a := .reset, b := .reset } := Table.get_const _ _

@[simp] theorem State.reset_records_get (p : PointIndex) : State.reset.records.get p = .reset := Table.get_const _ _

/-- Reset values suit every debounce length and every dwell length that are not 0 (R17, R39). -/
theorem ChannelSound.reset {deb : Nat} (positive : 0 < deb) : ChannelSound deb .reset where
  run := positive
  agreed := fun _ => rfl
  free := fun _ => rfl
  damped := fun damped => nomatch damped
  ok := fun _ => by decide
  faulted := fun faulted => nomatch faulted

/-- See `ChannelSound.reset`. -/
theorem RecordSound.reset {d : Nat} (positive : 0 < d) {h : HandOver} (good : h.faulted = false)
    (a : h.filteredA = .free) (b : h.filteredB = .free) : RecordSound d h .reset where
  condition := by simp [PointRecord.reset, conditionOf, good]
  head := rfl
  levels := by rintro q ⟨⟩; exact ⟨a, b⟩
  healthy := fun _ => good
  lagged := rfl
  lagRange := fun _ q => nomatch q
  dwell := positive
  dwellBlocked := fun _ => rfl
  speed := fun _ q => nomatch q

/-- Front end and records at their reset values, under any configuration of good lengths. -/
theorem PointsSound.of_resting {s : State} (front : s.front = State.reset.front)
    (records : s.records = State.reset.records) (reference : s.reference = State.reset.reference)
    (deb : ∀ c ∈ s.config, 2 ≤ c.deb ∧ c.deb ≤ 8) (dwell : ∀ c ∈ s.config, 1 ≤ c.dwellCode ∧ c.dwellCode ≤ 50) :
    PointsSound s where
  deb := deb
  dwell := dwell
  resting := fun _ => ⟨front, records, reference⟩
  unused := fun p _ => by
    rw [front, records, State.reset_front_get, State.reset_records_get]
    exact ⟨rfl, rfl, rfl⟩
  channels := fun p used => by
    have lengths := State.lengths_of_config deb dwell used
    rw [front, State.reset_front_get]
    exact ⟨.reset (by omega), .reset (by omega)⟩
  records := fun p used => by
    have lengths := State.lengths_of_config deb dwell used
    have handed : s.handOver p =
        { filteredA := .free, filteredB := .free, onsetA := 0, onsetB := 0, healthA := .ok, healthB := .ok
          healthReference := .ok } := by
      unfold State.handOver
      rw [front, reference, State.reset_front_get]
      rfl
    rw [records, handed, State.reset_records_get]
    exact .reset lengths.2.2 rfl rfl rfl
  reference := fun _ => by rw [reference]; decide
  referenceFaulted := fun h => by rw [reference] at h; cases h

/-- The reset state, with whatever the model keeps over a reset. -/
theorem PointsSound.toReset (s : State) : PointsSound s.toReset :=
  .of_resting rfl rfl rfl (fun _ c => nomatch c) (fun _ c => nomatch c)

/-- A good image holds good lengths (R177). -/
theorem imageGood_lengths {station : Station} {image : List Byte} (good : imageGood station image = true) :
    (2 ≤ (imageConfig image).deb ∧ (imageConfig image).deb ≤ 8) ∧
      1 ≤ (imageConfig image).dwellCode ∧ (imageConfig image).dwellCode ≤ 50 := by
  simp only [imageGood, imageChecks, List.all_cons, List.all_nil, id_eq, Bool.and_eq_true, imageInRange,
    headerInRange, within, decide_eq_true_eq] at good
  obtain ⟨_, _, _, ⟨⟨⟨⟨⟨⟨deb, dwell⟩, _⟩, _⟩, _⟩, _⟩, _⟩, _⟩ := good
  exact ⟨deb, dwell⟩

/-- A configuration loaded in LOADING meets front end and records at rest (R14, R178). -/
theorem PointsSound.loadImage {s : State} (sound : PointsSound s) (loading : s.mode = .loading) {image : List Byte}
    (good : imageGood s.stationNumber image = true) : PointsSound (s.loadImage image).driveAttn := by
  obtain ⟨front, records, reference⟩ := sound.resting (.inr loading)
  have lengths := imageGood_lengths good
  exact .of_resting front records reference (by rintro c ⟨⟩; exact lengths.1) (by rintro c ⟨⟩; exact lengths.2)

/-- The channels of a point not in use take their samples and nothing else (R13). -/
theorem State.sweepFront_get_unused {s : State} {p : PointIndex} (unused : s.pointInUse p = false) (r : Results) :
    (s.sweepFront r).front.get p =
      { a := { (s.front.get p).a with sample := some (resultOf r p .a) }
        b := { (s.front.get p).b with sample := some (resultOf r p .b) } } := by
  rw [State.sweepFront_get, State.pointConfig_of_unused unused]
  rfl

/-- The lag captured at a completion, where channel `first` stays damped and channel `second` becomes so. -/
theorem PointsSound.capturedLag {s : State} (sound : PointsSound s) {p : PointIndex} {cfg : PointConfig}
    (used : s.pointConfig p = some cfg) (r : Results) (first second : ChannelName)
    (before : (s.channel p first).filtered = .damped) (free : (s.channel p second).filtered = .free)
    (after : ((s.sweepFront r).channel p first).filtered = .damped)
    (damped : ((s.sweepFront r).channel p second).filtered = .damped) :
    1 ≤ Machine.capturedLag ((s.sweepFront r).channel p first).onset ((s.sweepFront r).channel p second).onset ∧
      Machine.capturedLag ((s.sweepFront r).channel p first).onset ((s.sweepFront r).channel p second).onset ≤
        Config.saturated := by
  have inUse := State.pointInUse_iff.2 ⟨cfg, used⟩
  obtain ⟨low, high, _⟩ := sound.lengths inUse
  have channel : ChannelSound s.deb (s.channel p first) := by
    cases first
    · exact (sound.channels p inUse).1
    · exact (sound.channels p inUse).2
  rw [State.sweepFront_channel used] at after damped ⊢
  rw [State.sweepFront_channel used]
  exact capturedLag_range low channel (channel.sweep low high _ _ _) before after free damped rfl rfl

/-- A sweep completion keeps front end and records in agreement (R1 to R13, R19). -/
theorem PointsSound.completeSweep {s : State} (sound : PointsSound s) (r : Results) :
    PointsSound (s.completeSweep r) := by
  cases listens : s.mode.listens
  · rw [State.completeSweep_silent listens]
    exact sound
  have config := State.completeSweep_config s r
  have front := State.completeSweep_front listens r
  have reference := State.completeSweep_reference listens r
  have inUse := fun p => State.pointInUse_congr config p
  have window := supervise_range (rfl : ((s.reference.sweep r.reference).health, _) = _) sound.reference
    sound.referenceFaulted
  constructor
  case deb => rw [config]; exact sound.deb
  case dwell => rw [config]; exact sound.dwell
  case resting =>
    rw [State.completeSweep_mode]
    rintro (mode | mode) <;> rw [mode] at listens <;> cases listens
  case unused =>
    intro p unused
    rw [inUse] at unused
    rw [front, State.sweepFront_get_unused unused,
      State.completeSweep_record_unused (State.pointConfig_of_unused unused)]
    exact sound.unused p unused
  case channels =>
    intro p used
    rw [inUse] at used
    obtain ⟨cfg, point⟩ := State.pointInUse_iff.1 used
    obtain ⟨low, high, _⟩ := sound.lengths used
    rw [front, State.sweepFront_get, point, State.deb_congr config]
    exact ⟨(sound.channels p used).1.sweep low high _ _ _, (sound.channels p used).2.sweep low high _ _ _⟩
  case records =>
    intro p used
    rw [inUse] at used
    obtain ⟨cfg, point⟩ := State.pointInUse_iff.1 used
    rw [State.completeSweep_record listens point, State.dwellLength_congr config]
    refine (sound.records p used).evaluate (sound.lengths used).2.2 ?_ ?_ cfg
    · unfold State.handOver
      rw [front]
      exact sound.capturedLag point r .a .b
    · unfold State.handOver
      rw [front]
      exact sound.capturedLag point r .b .a
  case reference => rw [reference]; exact window.1
  case referenceFaulted => rw [reference]; exact window.2

/-- Whatever a command makes of front end, records and configuration, they stay in agreement. -/
theorem PointsSound.of_outcome {s t : State} (outcome : PointsOutcome s t) (sound : PointsSound s) : PointsSound t := by
  cases outcome with
  | same kept => exact .of_same kept sound
  | reset => exact .toReset s
  | swept r => exact sound.completeSweep r
  | loaded image loading good => exact sound.loadImage loading good

/-- The queue of commands is no part of front end and records. -/
theorem SamePoints.pending (s : State) (queue : List Instr) : SamePoints s { s with pending := queue } :=
  ⟨rfl, rfl, rfl, rfl, id⟩

/-- Settles O58: a step runs one command, or lets time pass, and each outcome keeps the agreement. -/
theorem pointsStaySound : Obligations.PointsStaySound := by
  intro s t sound h
  unfold step at h
  split at h
  · obtain rfl := Host.Outcome.next.inj h
    exact sound.of_same (.idleStep s)
  · exact .of_outcome (exec_pointsOutcome _ h) (sound.of_same (.pending s _))

end Sys2Proof.Machine

namespace Sys2Proof.Machine

open Sys2Proof.Claims

/-! ### What an evaluation of a section reads -/

/-- A term reads the records and the mirror table alone (R106). -/
theorem State.source_congr {s t : State} (records : s.records = t.records) (mirror : s.mirror = t.mirror) :
    s.source = t.source := by
  funext src
  unfold State.source
  rw [records, mirror]

/-- So does an evaluation (R109). -/
theorem State.evaluateSection_congr {s t : State} (records : s.records = t.records) (mirror : s.mirror = t.mirror) :
    s.evaluateSection = t.evaluateSection := by
  have quiet : s.termQuiet = t.termQuiet := by
    funext term
    unfold State.termQuiet
    rw [State.source_congr records mirror]
  funext notice src sec
  unfold State.evaluateSection State.settleTest State.meetsSettleEntry State.allQuiet
  rw [State.source_congr records mirror, quiet]

/-! ### The front end is read by the recognizers alone

Every later stage of a completion does the same to a state with another front end. -/

/-- The state with the front end's channels replaced. -/
def State.withFront (s : State) (front : Table PointChannels 4) : State := { s with front := front }

section
variable (s : State) (f : Table PointChannels 4)

theorem State.refresh_withFront (concerns : EntryKind → Bool) (newClass : EntryKind → Nat → Nat) :
    (s.withFront f).refresh concerns newClass = (s.refresh concerns newClass).withFront f := rfl

theorem State.pointChangeDue_withFront (p : PointIndex) :
    (s.withFront f).pointChangeDue p = (s.pointChangeDue p).withFront f := by
  unfold State.pointChangeDue
  rw [apply_ite (State.withFront · f)]
  rfl

theorem State.sectionChangeDue_withFront (n : Slot) :
    (s.withFront f).sectionChangeDue n = (s.sectionChangeDue n).withFront f := by
  unfold State.sectionChangeDue
  rw [apply_ite (State.withFront · f)]
  rfl

theorem State.handOn_withFront (n : Slot) (state : SectionState) :
    (s.withFront f).handOn n state = (s.handOn n state).withFront f := by
  unfold State.handOn
  rw [State.sectionChangeDue_withFront]
  rfl

theorem State.applySection_withFront (n : Slot) (evaluation : Section → Section) :
    (s.withFront f).applySection n evaluation = (s.applySection n evaluation).withFront f := by
  have sections : (s.withFront f).sections = s.sections := rfl
  unfold State.applySection
  rw [sections]
  cases s.sections.get n with
  | none => rfl
  | some sec =>
    dsimp only
    rw [apply_ite (State.withFront · f), ← State.handOn_withFront]
    rfl

theorem State.reachSection_withFront (n : Slot) (notice : Option DisturbanceCause) (src : TermSource) :
    (s.withFront f).reachSection n notice src = (s.reachSection n notice src).withFront f := by
  unfold State.reachSection
  rw [State.applySection_withFront, State.evaluateSection_congr (s := s.withFront f) (t := s) rfl rfl]

theorem sweepChange_withFront (n : Slot) (b : Bool) (p : PointIndex) :
    sweepChange n (s.withFront f, b) p =
      ((sweepChange n (s, b) p).1.withFront f, (sweepChange n (s, b) p).2) := by
  unfold sweepChange
  rw [State.reachSection_withFront]
  rfl

theorem State.sweepSlot_withFront (changed : List PointIndex) (draw : Nat) (n : Slot) :
    State.sweepSlot changed draw (s.withFront f) n = (State.sweepSlot changed draw s n).withFront f := by
  have fold := List.foldl_hom (fun acc : State × Bool => (acc.1.withFront f, acc.2)) (g₁ := sweepChange n)
    (g₂ := sweepChange n) (l := changeOrder draw n (s.changesReaching changed n)) (init := (s, false))
    fun acc p => sweepChange_withFront acc.1 f n acc.2 p
  have reaching : (s.withFront f).changesReaching changed n = s.changesReaching changed n := rfl
  unfold State.sweepSlot
  rw [reaching, apply_ite (State.withFront · f), fold]
  rfl

theorem State.loadNext_withFront : (s.withFront f).loadNext = s.loadNext.withFront f := by
  have entries : (s.withFront f).tx.entries = s.tx.entries := rfl
  unfold State.loadNext
  rw [entries]
  cases earliestLowest s.tx.entries <;> rfl

theorem State.preempt_withFront : (s.withFront f).preempt = s.preempt.withFront f := by
  have next : (s.withFront f).tx.next = s.tx.next := rfl
  unfold State.preempt
  rw [next]
  cases s.tx.next with
  | none => rfl
  | some lf =>
    dsimp only
    rw [apply_ite (State.withFront · f), ← State.loadNext_withFront]
    rfl

theorem State.driveAttn_withFront : (s.withFront f).driveAttn = s.driveAttn.withFront f := by
  have level := State.attnLevel_congr (s := s.withFront f) (t := s) rfl rfl rfl rfl rfl
  unfold State.driveAttn
  rw [level, level]
  rfl

end

/-- Two completions whose recognizers read alike differ in the front end alone. -/
theorem State.completeSweep_withFront {s : State} (listens : s.mode.listens = true) {r q : Results}
    (alike : (s.sweepFront q).sweepRecords = (s.sweepFront r).sweepRecords.withFront (s.sweepFront q).front) :
    s.completeSweep q = (s.completeSweep r).withFront (s.sweepFront q).front := by
  generalize (s.sweepFront q).front = f at alike
  have changed : changedPoints s (s.sweepFront q).sweepRecords = changedPoints s (s.sweepFront r).sweepRecords := by
    rw [alike]
    rfl
  have reported := List.foldl_hom (State.withFront · f)
    (l := changedPoints s (s.sweepFront r).sweepRecords) (init := (s.sweepFront r).sweepRecords)
    fun t p => State.pointChangeDue_withFront t f p
  have sectioned := fun t => List.foldl_hom (State.withFront · f) (l := allSlots) (init := t)
    fun u n => State.sweepSlot_withFront u f (changedPoints s (s.sweepFront r).sweepRecords) s.draws n
  have swept : s.sweep q = (s.sweep r).withFront f := by
    unfold State.sweep
    dsimp only
    rw [changed, alike, reported, sectioned]
    rfl
  unfold State.completeSweep
  rw [if_pos listens, if_pos listens, swept, State.preempt_withFront, State.driveAttn_withFront]

/-- Results that agree on the reference and on the points in use are read alike by the recognizers (R6, R37). -/
theorem State.sweepRecords_alike {s : State} {r q : Results} (reference : r.reference = q.reference)
    (inUse : ∀ p, s.pointInUse p = true → sameInUse p r q) :
    (∀ p, s.pointInUse p = true → (s.sweepFront r).front.get p = (s.sweepFront q).front.get p) ∧
      (s.sweepFront q).sweepRecords = (s.sweepFront r).sweepRecords.withFront (s.sweepFront q).front := by
  have front : ∀ p, s.pointInUse p = true → (s.sweepFront r).front.get p = (s.sweepFront q).front.get p := by
    intro p used
    rw [State.sweepFront_get, State.sweepFront_get, (inUse p used).1, (inUse p used).2]
  have record : (s.sweepFront q).evaluatedRecord = (s.sweepFront r).evaluatedRecord := by
    funext p
    have config : ∀ x : Results, (s.sweepFront x).pointConfig p = s.pointConfig p := fun _ => rfl
    unfold State.evaluatedRecord
    rw [config, config]
    cases point : s.pointConfig p with
    | none => rfl
    | some cfg =>
      have handed : (s.sweepFront q).handOver p = (s.sweepFront r).handOver p := by
        unfold State.handOver
        rw [front p (State.pointInUse_iff.2 ⟨cfg, point⟩), State.sweepFront_reference, State.sweepFront_reference,
          reference]
      dsimp only
      rw [handed]
      rfl
  refine ⟨front, ?_⟩
  unfold State.sweepRecords State.withFront
  rw [record]
  simp only [State.sweepFront, reference]

/-- Settles O11: the recognizers read the channels of points in use alone, and nothing after them reads a channel. -/
theorem unusedInputsHaveNoEffect : Obligations.UnusedInputsHaveNoEffect := by
  intro s r q reference inUse
  refine ⟨_, _, exec_sweepCompletion r s, exec_sweepCompletion q s, ?_⟩
  cases listens : s.mode.listens
  · rw [State.completeSweep_silent listens, State.completeSweep_silent listens]
    exact ⟨rfl, fun _ _ => rfl, fun _ _ => ⟨rfl, rfl, rfl⟩⟩
  · obtain ⟨front, alike⟩ := State.sweepRecords_alike reference inUse
    refine ⟨?_, fun p used => ?_, fun p unused => ?_⟩
    · rw [State.completeSweep_withFront listens alike]
      rfl
    · rw [State.completeSweep_front listens, State.completeSweep_front listens]
      exact front p used
    · rw [State.completeSweep_front listens, State.sweepFront_get_unused unused,
        State.completeSweep_record_unused (State.pointConfig_of_unused unused)]
      exact ⟨rfl, rfl, rfl⟩

end Sys2Proof.Machine

namespace Sys2Proof.Machine

open Sys2Proof.Claims

/-! ### What the transmitter keeps through changes of points and sections -/

/-- State, failure count, START counters and the presence of a live frame are kept, and the live frame too unless it is
WAITING (R70). -/
structure TxKept (a b : Transmitter) : Prop where
  state : b.state = a.state
  failures : b.failures = a.failures
  startCounters : b.startCounters = a.startCounters
  held : b.live.isSome = a.live.isSome
  live : a.state ≠ .waiting → b.live = a.live

namespace TxKept

theorem refl (a : Transmitter) : TxKept a a := ⟨rfl, rfl, rfl, rfl, fun _ => rfl⟩

theorem trans {a b c : Transmitter} (first : TxKept a b) (second : TxKept b c) : TxKept a c where
  state := second.state.trans first.state
  failures := second.failures.trans first.failures
  startCounters := second.startCounters.trans first.startCounters
  held := second.held.trans first.held
  live := fun n => (second.live (first.state ▸ n)).trans (first.live n)

/-- A cause that falls due reaches the pending list alone (R44 to R46, R66). -/
theorem hold (t : Transmitter) (which : EntryKind → Bool) (kind : EntryKind) (changeClass periodicClass : Nat)
    (cause : DueCause) : TxKept t (t.hold which kind changeClass periodicClass cause) := by
  unfold Transmitter.hold
  split
  · cases cause <;> exact ⟨rfl, rfl, rfl, rfl, fun _ => rfl⟩
  · split
    · exact refl t
    · cases cause <;> exact ⟨rfl, rfl, rfl, rfl, fun _ => rfl⟩

/-- A refresh rebuilds the live frame only while it is WAITING (R70). -/
theorem refresh (s : State) (concerns : EntryKind → Bool) (newClass : EntryKind → Nat → Nat) :
    TxKept s.tx (s.refresh concerns newClass).tx where
  state := rfl
  failures := rfl
  startCounters := rfl
  held := by
    unfold State.refresh State.refreshLayer
    dsimp only [State.withTx_tx]
    split
    · exact Option.isSome_map
    · rfl
  live := fun n => if_neg n

theorem pointChangeDue (s : State) (p : PointIndex) : TxKept s.tx (s.pointChangeDue p).tx := by
  unfold State.pointChangeDue
  split
  · exact trans (b := s.tx.reportDue p .change) (hold s.tx _ _ _ _ _) (refresh (s.withTx (s.tx.reportDue p .change)) _ _)
  · exact refl _

theorem sectionChangeDue (s : State) (n : Slot) : TxKept s.tx (s.sectionChangeDue n).tx := by
  unfold State.sectionChangeDue
  split
  · exact trans (b := s.tx.statusDue n .change) (hold s.tx _ _ _ _ _) (refresh (s.withTx (s.tx.statusDue n .change)) _ _)
  · exact refl _

/-- A round that ends or opens reaches the pending list alone (R133, R134). -/
theorem followRound (s : State) (n : Slot) (before after : Section) :
    TxKept s.tx (s.followRound n before after).tx := by
  unfold State.followRound
  dsimp only [State.withTx_tx]
  split <;> split <;> exact ⟨rfl, rfl, rfl, rfl, fun _ => rfl⟩

theorem applySection (s : State) (n : Slot) (f : Section → Section) : TxKept s.tx (s.applySection n f).tx := by
  unfold State.applySection
  split
  · exact refl _
  · rename_i sec _
    have followed := followRound (s.setSection n (f sec)) n sec (f sec)
    dsimp only
    split
    · exact followed.trans (sectionChangeDue _ n)
    · exact followed

theorem preempt (s : State) : TxKept s.tx s.preempt.tx := by
  obtain ⟨live, state, failures, startCounters, _⟩ := s.preempt_keeps
  exact ⟨state, failures, startCounters, by rw [live], fun _ => live⟩

end TxKept

/-! ### What an evaluation keeps of a section -/

/-- Number, direct flag and restore record of a section. -/
def Section.identity (sec : Section) : Nat × Bool × Option Serial × RestoreOutcome :=
  (sec.number, sec.direct, sec.restoreSerial, sec.restoreOutcome)

@[simp] theorem Section.disturb_identity (cause : DisturbanceCause) (sec : Section) :
    (sec.disturb cause).identity = sec.identity := by
  rcases sec.disturb_cases cause with ⟨_, e⟩ | ⟨_, e⟩
  · rw [e]
  · rw [e]
    rfl

@[simp] theorem Section.applyNet_identity (net : Int) (sec : Section) : (sec.applyNet net).identity = sec.identity := by
  rcases sec.applyNet_cases net with ⟨_, e⟩ | ⟨b, _, ⟨_, e⟩ | ⟨_, e⟩ | ⟨b', _, _, e⟩⟩ <;> rw [e]
  · exact sec.disturb_identity _
  · exact sec.disturb_identity _
  · rfl

@[simp] theorem Section.takeCounts_identity (notice : Option DisturbanceCause) (src : TermSource) (v : SourceView)
    (sec : Section) : (sec.takeCounts notice src v).identity = sec.identity := by
  rcases sec.takeCounts_cases notice src v with ⟨_, e⟩ | ⟨_, c, _, e⟩ | ⟨_, _, _, e⟩ | ⟨_, _, _, e⟩ <;> rw [e] <;> simp

@[simp] theorem Section.stateOutcome_identity (net : Int) (head : Head) (sec : Section) :
    (sec.stateOutcome net head).identity = sec.identity := by
  unfold Section.stateOutcome
  split
  · rfl
  · rfl
  all_goals split <;> rfl

@[simp] theorem State.settleTest_identity (s : State) (sec : Section) : (s.settleTest sec).identity = sec.identity := by
  rcases s.settleTest_cases sec with ⟨_, e⟩ | ⟨_, e⟩
  · rw [e]
    rcases sec.enterSettling_cases with ⟨_, e⟩ | ⟨_, e⟩ <;> rw [e] <;> rfl
  · rw [e]

/-- An evaluation keeps number, direct flag and restore record (R109). -/
@[simp] theorem State.evaluateSection_identity (s : State) (notice : Option DisturbanceCause) (src : TermSource)
    (sec : Section) : (s.evaluateSection notice src sec).identity = sec.identity := by
  cases h : s.source src with
  | none => rw [State.evaluateSection_absent h]
  | some v =>
    have followed : (s.evaluateSection notice src sec).identity =
        (Section.takeEvent notice src v sec).identity := by
      unfold State.evaluateSection
      rw [h]
      exact s.settleTest_identity _
    rw [followed, Section.takeEvent, Section.stateOutcome_identity]
    exact sec.takeCounts_identity notice src v

/-- So does a notification, in every slot. -/
theorem State.reachSection_identity (s : State) (n m : Slot) (notice : Option DisturbanceCause) (src : TermSource) :
    ((s.reachSection n notice src).sections.get m).map Section.identity =
      (s.sections.get m).map Section.identity := by
  unfold State.reachSection
  by_cases same : m = n
  · subst same
    rw [State.applySection_get_same, Option.map_map]
    congr 1
    funext sec
    by_cases uses : sec.uses src = true <;> simp [uses]
  · rw [State.applySection_get_other _ _ same]

/-- The slot that a notification reaches. -/
theorem State.reachSection_get_same {s : State} {n : Slot} {sec : Section} (h : s.sections.get n = some sec)
    {src : TermSource} (uses : sec.uses src = true) (notice : Option DisturbanceCause) :
    (s.reachSection n notice src).sections.get n = some (s.evaluateSection notice src sec) := by
  unfold State.reachSection
  rw [State.applySection_get_same, h, Option.map_some, if_pos uses]

/-! ### The sections at a sweep completion -/

/-- What every point change at a slot and every writing of its line keeps, the slot's part of a completion keeps. -/
theorem State.sweepSlot_preserves {P : State → Prop} {n : Slot}
    (reach : ∀ s p, P s → P (s.reachSection n none (.localPoint p))) (line : ∀ s l, P s → P (s.setLine n l))
    (changed : List PointIndex) (draw : Nat) {s : State} (h : P s) : P (State.sweepSlot changed draw s n) := by
  have taken : P ((changeOrder draw n (s.changesReaching changed n)).foldl (sweepChange n) (s, false)).1 :=
    List.foldlRecOn (motive := fun acc : State × Bool => P acc.1) _ _ h fun acc kept p _ => reach acc.1 p kept
  unfold State.sweepSlot
  dsimp only
  split
  · exact taken
  · exact line _ _ taken

/-- The part of one slot leaves the sections of the others alone (R108). -/
theorem State.sweepSlot_get_other (changed : List PointIndex) (draw : Nat) (s : State) {n m : Slot} (h : m ≠ n) :
    (State.sweepSlot changed draw s n).sections.get m = s.sections.get m :=
  State.sweepSlot_preserves (P := fun t => t.sections.get m = s.sections.get m)
    (fun t _ kept => (State.applySection_get_other t _ h).trans kept) (fun _ _ kept => kept) changed draw rfl

theorem State.sweepSlot_identity (changed : List PointIndex) (draw : Nat) (s : State) (n m : Slot) :
    ((State.sweepSlot changed draw s n).sections.get m).map Section.identity =
      (s.sections.get m).map Section.identity :=
  State.sweepSlot_preserves
    (P := fun t => (t.sections.get m).map Section.identity = (s.sections.get m).map Section.identity)
    (fun t p kept => (t.reachSection_identity n m none (.localPoint p)).trans kept) (fun _ _ kept => kept)
    changed draw rfl

theorem TxKept.sweepSlot (changed : List PointIndex) (draw : Nat) (s : State) (n : Slot) :
    TxKept s.tx (State.sweepSlot changed draw s n).tx :=
  State.sweepSlot_preserves (P := fun t => TxKept s.tx t.tx)
    (fun t _ kept => kept.trans (.applySection t n _)) (fun _ _ kept => kept) changed draw (.refl _)

/-- No change reaches the slot: its section is kept (R108). -/
theorem State.sweepSlot_get_of_none {changed : List PointIndex} {s : State} {n : Slot}
    (unreached : s.changesReaching changed n = []) (draw : Nat) :
    (State.sweepSlot changed draw s n).sections = s.sections := by
  unfold State.sweepSlot
  rw [unreached]
  rfl

/-- One change reaches the slot: its section is evaluated by it (R108, R109). -/
theorem State.sweepSlot_get_of_single {changed : List PointIndex} {s : State} {n : Slot} {p : PointIndex}
    {sec : Section} (single : s.changesReaching changed n = [p]) (h : s.sections.get n = some sec)
    (uses : sec.uses (.localPoint p) = true) (draw : Nat) :
    (State.sweepSlot changed draw s n).sections.get n = some (s.evaluateSection none (.localPoint p) sec) := by
  have reached := State.reachSection_get_same h uses none
  unfold State.sweepSlot
  rw [single]
  dsimp only [changeOrder, List.foldl_cons, List.foldl_nil, sweepChange]
  split <;> exact reached

/-- Over several slots, each section is what its own part makes of it, on the same records and mirror table. -/
theorem foldl_sweepSlot_get (changed : List PointIndex) (draw : Nat) {n : Slot} :
    ∀ (l : List Slot) (s : State), l.Nodup → n ∈ l →
      ∃ u : State, u.sections.get n = s.sections.get n ∧ u.records = s.records ∧ u.mirror = s.mirror ∧
        (l.foldl (State.sweepSlot changed draw) s).sections.get n =
          (State.sweepSlot changed draw u n).sections.get n
  | [], _, _, mem => nomatch mem
  | k :: l, s, distinct, mem => by
    obtain ⟨fresh, distinct⟩ := List.nodup_cons.1 distinct
    rw [List.foldl_cons]
    by_cases here : n = k
    · subst here
      refine ⟨s, rfl, rfl, rfl, ?_⟩
      exact List.foldlRecOn (motive := fun t : State =>
        t.sections.get n = (State.sweepSlot changed draw s n).sections.get n) l _ rfl fun t kept m inRest =>
          (State.sweepSlot_get_other changed draw t (by rintro rfl; exact fresh inRest)).trans kept
    · obtain ⟨u, slot, records, mirror, e⟩ := foldl_sweepSlot_get changed draw l
        (State.sweepSlot changed draw s k) distinct ((List.mem_cons.1 mem).resolve_left here)
      have writes := State.sweepSlot_eq changed draw s k
      refine ⟨u, slot.trans (State.sweepSlot_get_other changed draw s here), ?_, ?_, e⟩
      · rw [records, writes, State.withSectionParts_records]
      · rw [mirror, writes, State.withSectionParts_mirror]

/-! ### A whole sweep completion -/

/-- A completion up to its reports: front end and records are swept, the reports of the changed points are due. -/
def State.reportedSweep (s : State) (r : Results) : State :=
  (changedPoints s (s.sweepFront r).sweepRecords).foldl State.pointChangeDue (s.sweepFront r).sweepRecords

/-- The stages of a completion after the reports: the slots, the preemption and the ATTN lines. -/
theorem State.completeSweep_stages {s : State} (listens : s.mode.listens = true) (r : Results) :
    s.completeSweep r =
      ({ allSlots.foldl (State.sweepSlot (changedPoints s (s.sweepFront r).sweepRecords) s.draws)
          (s.reportedSweep r) with draws := s.draws + 1 } : State).preempt.driveAttn := if_pos listens

theorem State.reportedSweep_eq (s : State) (r : Results) :
    s.reportedSweep r = (s.sweepFront r).sweepRecords.withTx (s.reportedSweep r).tx := foldl_pointChangeDue_eq _ _

theorem State.reportedSweep_sections (s : State) (r : Results) : (s.reportedSweep r).sections = s.sections := by
  rw [State.reportedSweep_eq]
  rfl

theorem State.reportedSweep_records (s : State) (r : Results) :
    (s.reportedSweep r).records = (s.sweepFront r).sweepRecords.records := by
  rw [State.reportedSweep_eq]
  rfl

theorem State.reportedSweep_mirror (s : State) (r : Results) : (s.reportedSweep r).mirror = s.mirror := by
  rw [State.reportedSweep_eq]
  rfl

theorem State.completeSweep_mirror {s : State} (listens : s.mode.listens = true) (r : Results) :
    (s.completeSweep r).mirror = s.mirror := by
  rw [State.completeSweep_eq listens]
  rfl

theorem State.completeSweep_sections {s : State} (listens : s.mode.listens = true) (r : Results) :
    (s.completeSweep r).sections =
      (allSlots.foldl (State.sweepSlot (changedPoints s (s.sweepFront r).sweepRecords) s.draws)
        (s.reportedSweep r)).sections := by
  rw [State.completeSweep_stages listens, State.driveAttn_sections, State.preempt_sections]

/-- One slot at a completion: its own part, on the records as they stand after the completion. -/
theorem State.completeSweep_section {s : State} (listens : s.mode.listens = true) (r : Results) (n : Slot) :
    ∃ u : State, u.sections.get n = s.sections.get n ∧ u.records = (s.completeSweep r).records ∧
      u.mirror = (s.completeSweep r).mirror ∧
      (s.completeSweep r).sections.get n =
        (State.sweepSlot (changedPoints s (s.sweepFront r).sweepRecords) s.draws u n).sections.get n := by
  have mem : n ∈ allSlots := by revert n; decide
  obtain ⟨u, slot, records, mirror, e⟩ := foldl_sweepSlot_get (changedPoints s (s.sweepFront r).sweepRecords) s.draws
    allSlots (s.reportedSweep r) (by decide) mem
  exact ⟨u, by rw [slot, State.reportedSweep_sections],
    by rw [records, State.completeSweep_records listens, State.reportedSweep_records],
    by rw [mirror, State.completeSweep_mirror listens, State.reportedSweep_mirror],
    by rw [State.completeSweep_sections listens, e]⟩

theorem State.completeSweep_identity (s : State) (r : Results) (n : Slot) :
    ((s.completeSweep r).sections.get n).map Section.identity = (s.sections.get n).map Section.identity := by
  cases listens : s.mode.listens
  · rw [State.completeSweep_silent listens]
  · obtain ⟨u, slot, _, _, e⟩ := State.completeSweep_section listens r n
    rw [e, State.sweepSlot_identity, slot]

theorem TxKept.reportedSweep (s : State) (r : Results) : TxKept s.tx (s.reportedSweep r).tx := by
  unfold State.reportedSweep
  generalize changedPoints s (s.sweepFront r).sweepRecords = changed
  have start : TxKept s.tx (s.sweepFront r).sweepRecords.tx := .refl _
  exact List.foldlRecOn (motive := fun t : State => TxKept s.tx t.tx) changed State.pointChangeDue start
    fun t kept p _ => kept.trans (.pointChangeDue t p)

theorem TxKept.completeSweep (s : State) (r : Results) : TxKept s.tx (s.completeSweep r).tx := by
  cases listens : s.mode.listens
  · rw [State.completeSweep_silent listens]
    exact .refl _
  · rw [State.completeSweep_stages listens, State.driveAttn_tx]
    generalize changedPoints s (s.sweepFront r).sweepRecords = changed
    have slots := List.foldlRecOn (motive := fun t : State => TxKept s.tx t.tx) allSlots
      (State.sweepSlot changed s.draws) (TxKept.reportedSweep s r) fun t kept n _ => kept.trans (.sweepSlot _ _ t n)
    generalize allSlots.foldl (State.sweepSlot changed s.draws) (s.reportedSweep r) = sectioned at slots ⊢
    exact slots.trans (.preempt { sectioned with draws := s.draws + 1 })

/-! ### The point changes of a completion (R36) -/

theorem pointChanged_iff (before after : PointRecord) :
    pointChanged before after = true ↔ recordChanged before after := by
  simp [pointChanged, recordChanged, or_assoc]

theorem mem_changedPoints {s : State} (listens : s.mode.listens = true) (r : Results) (p : PointIndex) :
    p ∈ changedPoints s (s.sweepFront r).sweepRecords ↔
      recordChanged (s.records.get p) ((s.completeSweep r).records.get p) := by
  have all : p ∈ allPoints := by revert p; decide
  rw [changedPoints, List.mem_filter, pointChanged_iff, State.completeSweep_records listens]
  exact and_iff_right all

theorem changedPoints_nodup (before after : State) : (changedPoints before after).Nodup :=
  (by decide : allPoints.Nodup).filter _

/-- The points of a list without repetition that are this one. -/
theorem filter_eq_singleton {l : List PointIndex} (distinct : l.Nodup) {p : PointIndex} {keep : PointIndex → Bool}
    (only : ∀ q, q ∈ l ∧ keep q = true ↔ q = p) : l.filter keep = [p] := by
  refine List.perm_singleton.1 ((List.perm_ext_iff_of_nodup (distinct.filter _) (List.nodup_singleton p)).2 ?_)
  intro q
  rw [List.mem_filter, only, List.mem_singleton]

/-- Settles O18: the parts a completion writes, and each section by the changes that reach its slot. -/
theorem sweepFrame : Obligations.SweepFrame := by
  intro s r
  refine ⟨fun silent => by rw [exec_sweepCompletion, State.completeSweep_silent silent], s.completeSweep r,
    exec_sweepCompletion r s, ?_⟩
  obtain ⟨state, failures, startCounters, held, live⟩ := TxKept.completeSweep s r
  refine ⟨?_, state, failures, startCounters, held, live, State.completeSweep_identity s r, ?_⟩
  · cases listens : s.mode.listens
    · rw [State.completeSweep_silent listens]
    · have writes := State.completeSweep_eq listens r
      generalize s.completeSweep r = t at writes
      obtain ⟨u, a0, a1, rfl⟩ : ∃ u a0 a1, t = { (s.sweepFront r).sweepRecords.withSectionParts u with
          attn0 := a0, attn1 := a1, draws := s.draws + 1 } := ⟨_, _, _, writes⟩
      rfl
  · cases listens : s.mode.listens
    · rw [State.completeSweep_silent listens]
      refine ⟨fun _ _ => rfl, fun n sec p _ changed _ _ => ?_⟩
      simp [recordChanged] at changed
    constructor
    · intro n unreached
      obtain ⟨u, slot, _, _, e⟩ := State.completeSweep_section listens r n
      rw [e, State.sweepSlot_get_of_none, slot]
      unfold State.changesReaching
      rw [slot]
      cases h : s.sections.get n with
      | none => rfl
      | some sec =>
        refine List.filter_eq_nil_iff.2 fun p changed => ?_
        rw [unreached sec p h ((mem_changedPoints listens r p).1 changed)]
        decide
    · intro n sec p h changed uses others
      obtain ⟨u, slot, records, mirror, e⟩ := State.completeSweep_section listens r n
      have single : u.changesReaching (changedPoints s (s.sweepFront r).sweepRecords) n = [p] := by
        unfold State.changesReaching
        rw [slot, h]
        refine filter_eq_singleton (changedPoints_nodup _ _) fun q => ?_
        rw [mem_changedPoints listens]
        refine ⟨fun ⟨changed', uses'⟩ => ?_, fun same => same ▸ ⟨changed, uses⟩⟩
        by_contra other
        simp [others q other changed'] at uses'
      rw [e, State.sweepSlot_get_of_single single (slot.trans h) uses, State.evaluateSection_congr records mirror]

end Sys2Proof.Machine

namespace Sys2Proof.Machine

open Sys2Proof.Claims

/-! ### The tables at reset -/

@[simp] theorem State.reset_sections_get (n : Slot) : State.reset.sections.get n = none := Table.get_const _ _

@[simp] theorem State.reset_mirror_get (m : EntryIndex) : State.reset.mirror.get m = none := Table.get_const _ _

@[simp] theorem State.reset_lines_get (n : Slot) : State.reset.lines.get n = .low := Table.get_const _ _

@[simp] theorem State.reset_startCounters_get (p : PointIndex) :
    State.reset.tx.startCounters.get p = Config.startFrames := Table.get_const _ _

@[simp] theorem State.reset_reportTimers_get (p : PointIndex) :
    State.reset.tx.reportTimers.get p = .stopped := Table.get_const _ _

@[simp] theorem State.reset_statusTimers_get (n : Slot) :
    State.reset.tx.statusTimers.get n = .stopped := Table.get_const _ _

/-! ### The invariants at reset, block by block -/

theorem SectionsKept.reset : SectionsKept State.reset where
  shape := fun n sec h => by simp at h
  disturbed := fun _ n sec h => by simp at h
  none := fun _ n => State.reset_sections_get n
  handed := fun _ _ c => nomatch c

theorem SectionsCurrent.reset : SectionsCurrent State.reset where
  current := fun n sec h => by simp at h
  quiet := fun n sec h => by simp at h

theorem BalanceAgrees.reset : BalanceAgrees State.reset := fun n sec h => by simp at h

theorem LinesSound.reset : LinesSound State.reset where
  toggling := fun n => by
    rw [State.reset_lines_get]
    exact iff_of_false (by decide) fun running => nomatch running.1
  high := fun n => by rw [State.reset_lines_get]; decide
  phase := fun n => by rw [State.reset_lines_get]; decide
  low := fun n _ => by rw [State.reset_lines_get]; rfl

/-- Both ATTN lines are active at reset, where the front end does not sweep (R174). -/
theorem AttnSound.reset : AttnSound State.reset where
  attn0 := iff_of_true rfl (.inl rfl)
  attn1 := iff_of_true rfl (.inl rfl)

theorem TxSound.reset : TxSound State.reset where
  live := by decide
  silent := fun _ => ⟨rfl, .inl rfl⟩
  mute := by decide
  muteHalts := fun mute => nomatch mute
  failures := by decide
  starts := fun p => by rw [State.reset_startCounters_get]
  kept := fun _ => ⟨rfl, rfl⟩
  keptLive := fun _ h => nomatch h
  keptNext := fun _ h => nomatch h

theorem FramesCurrent.reset : FramesCurrent State.reset where
  next := fun _ h => nomatch h
  waiting := fun _ _ h => nomatch h
  request := fun _ h => nomatch h
  buildable := fun _ h => nomatch h

theorem PendingSound.reset : PendingSound State.reset where
  ordered := .nil
  numbered := fun _ h => nomatch h
  distinct := .nil
  classes := fun _ h => nomatch h
  inUse := fun _ h => nomatch h
  answers := by decide
  rounds := fun _ _ h => nomatch h
  next := fun _ h => nomatch h
  lowest := fun _ h => nomatch h
  empty := fun _ => ⟨rfl, fun _ => rfl⟩
  reportTimers := fun p h => by simp [Timer.stopped] at h
  statusTimers := fun n h => by simp [Timer.stopped] at h

theorem RxSound.reset : RxSound State.reset where
  fifo := by decide
  taken := fun _ => rfl
  queued := fun _ h => nomatch h
  handled := fun _ h => nomatch h
  idle := by decide
  busy := fun _ => rfl
  hunting := fun _ => rfl
  assembled := fun _ h => nomatch h
  stopped := fun _ => ⟨rfl, rfl, rfl, rfl⟩

theorem PointsSound.reset : PointsSound State.reset :=
  .of_resting rfl rfl rfl (fun _ c => nomatch c) (fun _ c => nomatch c)

theorem ModeSound.reset : ModeSound State.reset := by constructor <;> decide

theorem MirrorSound.reset : MirrorSound State.reset where
  entries :=
    { foreign := fun m e h => by simp at h
      distinct := fun m k e h => by simp at h }
  timed := fun m e h => by simp at h
  overtaken := fun m e h => by simp at h
  none := fun _ m => State.reset_mirror_get m
  handed := fun _ _ c => nomatch c

/-- Settles O60, block by block. -/
theorem resetMeetsInvariants : Obligations.ResetMeetsInvariants :=
  ⟨.reset, .reset, .reset, .reset, .reset, .reset, .reset, .reset, .reset, .reset, .reset, .reset⟩

/-! ### The entry to HALTED outside RUNNING (R182) -/

/-- Outside RUNNING a section that takes HALT makes no status due (R169). -/
theorem State.haltSection_tx {s : State} (mode : s.mode ≠ .running) (n : Slot) : (s.haltSection n).tx = s.tx := by
  unfold State.haltSection
  split
  · rfl
  · dsimp only
    split
    · unfold State.handOn State.sectionChangeDue
      rw [if_neg (by exact mode)]
      rfl
    · rfl

/-- Outside RUNNING the transmitter at the entry to HALTED is the one found there, stopped (R79). -/
theorem State.enterHalted_tx {s : State} (halted : s.mode ≠ .halted) (mode : s.mode ≠ .running) (cause : HaltCause) :
    (s.enterHalted cause).tx = s.tx.halt := by
  have e : s.enterHalted cause = (allSlots.foldl State.haltSection s).stopBlocks cause := if_neg halted
  have kept := List.foldlRecOn (motive := fun t : State => t.mode = s.mode ∧ t.tx = s.tx) allSlots State.haltSection
    ⟨rfl, rfl⟩ fun t kept n _ =>
      ⟨(t.haltSection_mode n).trans kept.1, (State.haltSection_tx (by rw [kept.1]; exact mode) n).trans kept.2⟩
  rw [e, ← kept.2]
  rfl

/-- What the transmitter's stop makes of its state and of the two layers (R79, R136). -/
theorem Transmitter.halt_states (t : Transmitter) :
    (t.state = .sending → t.halt.state = .sending) ∧
      (t.state = .mute → t.halt.state = .mute) ∧
      (t.state ≠ .sending → t.state ≠ .mute → t.halt.state = .quiet) := by
  refine ⟨fun h => ?_, fun h => ?_, fun h h' => ?_⟩
  · simp [Transmitter.halt, h]
  · simp [Transmitter.halt, h]
  · simp [Transmitter.halt, h, h']

/-- The entry to HALTED outside RUNNING does all that R182 lists. -/
theorem haltedFrom_enterHalted {s : State} (halted : s.mode ≠ .halted) (mode : s.mode ≠ .running) {cause : HaltCause}
    (notMute : cause ≠ .mute) : haltedFrom s (s.enterHalted cause).driveAttn := by
  have tx := State.enterHalted_tx halted mode cause
  have sections := State.enterHalted_get halted cause
  have writes := State.enterHalted_eq halted cause
  rw [tx] at writes
  generalize s.enterHalted cause = t at sections writes
  obtain ⟨secs, rfl⟩ : ∃ secs, t = { s with
      mode := .halted, cause := some cause, cfgSelectLow := false, cfgClock := 0, loadingTimer := .stopped
      listeningTimer := .stopped, tx := s.tx.halt, rx := s.rx.halt
      mirror := s.mirror.map fun e => e.map MirrorEntry.halt, sections := secs, lines := .const 8 .low } :=
    ⟨_, writes⟩
  obtain ⟨stateSending, stateMute, stateQuiet⟩ := s.tx.halt_states
  obtain ⟨liveSending, liveStopped⟩ := s.tx.halt_live
  have muteStopped : s.tx.state = .mute → s.tx.state ≠ .sending := fun h h' => nomatch h.symm.trans h'
  refine ⟨rfl, rfl, rfl, rfl, rfl, rfl, rfl, rfl, rfl, rfl, rfl, rfl, rfl, fun m => Table.get_map _ _ _,
    fun n => (sections n).trans rfl, fun p => ?_, fun n => ?_, rfl, rfl,
    fun e mem => ⟨e, mem, rfl, rfl, le_rfl⟩, fun _ => ?_, fun mute => absurd (Option.some.inj mute) notMute,
    fun n => Table.get_const _ _, rfl, rfl⟩
  · exact congrArg Timer.running (Table.get_map _ _ _)
  · exact congrArg Timer.running (Table.get_map _ _ _)
  · exact ⟨rfl, fun h => ⟨stateSending h, (liveSending h).1⟩, fun h => ⟨stateMute h, (liveStopped (muteStopped h)).1⟩,
      fun h h' => ⟨stateQuiet h h', (liveStopped h).1⟩, rfl, fun h => (liveSending h).2, fun h => (liveStopped h).2⟩

/-! ### Reset and release (R175, R183) -/

theorem exec_resetAssertion (k : Nat) (s : State) :
    exec (.resetAssertion k) s = .next (if 2 ≤ k then s.toReset else s) := rfl

/-- A release with straps other than 0 enters LOADING (R175, R179). -/
theorem exec_resetRelease_station {s : State} (held : s.mode = .heldInReset) {straps : Station} (station : straps ≠ 0) :
    exec (.resetRelease straps) s = .next (s.enterLoading straps).driveAttn := by
  change Host.Outcome.next _ = _
  rw [if_pos held, if_neg station]

/-- A release with straps 0 halts the part (R175). -/
theorem exec_resetRelease_zero {s : State} (held : s.mode = .heldInReset) :
    exec (.resetRelease 0) s = .next (s.enterHalted .config).driveAttn := by
  change Host.Outcome.next _ = _
  rw [if_pos held, if_pos rfl]

/-- Settles O46: reset takes every reset value, and a release enters LOADING or HALTED. -/
theorem resetAndRelease : Obligations.ResetAndRelease := by
  refine ⟨fun s k => ⟨fun long => ?_, fun short => ?_⟩, ?_, fun s held => ⟨fun straps station => ?_, ?_⟩⟩
  · rw [exec_resetAssertion, if_pos long]
    rfl
  · rw [exec_resetAssertion, if_neg (Nat.not_le.2 short)]
  · exact ⟨rfl, rfl, rfl, rfl, rfl, rfl, rfl, State.reset_channel, rfl, State.reset_records_get,
      State.reset_lines_get, rfl, rfl, State.reset_mirror_get, State.reset_sections_get, rfl, rfl, rfl, rfl, rfl, rfl,
      rfl, State.reset_startCounters_get, rfl, rfl, rfl, rfl, rfl⟩
  · rw [exec_resetRelease_station held station]
    rfl
  · have halted : s.mode ≠ .halted := by rw [held]; decide
    have running : s.mode ≠ .running := by rw [held]; decide
    refine ⟨_, exec_resetRelease_zero held, haltedFrom_enterHalted halted running (by decide), ?_⟩
    rw [State.enterHalted_eq halted]
    rfl

end Sys2Proof.Machine

namespace Sys2Proof.Machine

open Sys2Proof.Claims

/-! ## Proofs: passage recognition and wheel speed

The statements about one record at a sweep completion. Each rests on what one evaluation makes of the record, told apart
by the steps of R19. -/

/-! ### What the front end hands over, in words of the state (R6) -/

theorem State.handOver_good_iff (s : State) (p : PointIndex) : (s.handOver p).faulted = false ↔ healthy s p := by
  rw [← Bool.not_eq_true, State.handOver_faulted_iff_not_healthy, not_not]

theorem HandOver.quiet_iff (h : HandOver) :
    h.quiet = true ↔ h.faulted = false ∧ h.filteredA = .free ∧ h.filteredB = .free := by
  simp [HandOver.quiet, and_comm]

/-- A completion is quiet for a point: R25 in words of the state. -/
theorem State.handOver_quiet_iff (s : State) (p : PointIndex) :
    (s.handOver p).quiet = true ↔
      healthy s p ∧ (s.front.get p).a.filtered = .free ∧ (s.front.get p).b.filtered = .free := by
  rw [HandOver.quiet_iff, State.handOver_good_iff]
  rfl

/-- Nothing after the front end changes what it hands over. -/
theorem State.completeSweep_handOver {s : State} (listens : s.mode.listens = true) (r : Results) (p : PointIndex) :
    (s.completeSweep r).handOver p = (s.sweepFront r).handOver p := by
  unfold State.handOver
  rw [State.completeSweep_front listens, State.completeSweep_reference listens, State.sweepFront_reference]

/-! ### Fault, dwell or pair: the steps of R19 -/

theorem PointRecord.takeLevels_of_blocked (cfg : PointConfig) (d : Nat) (h : HandOver) {r : PointRecord}
    (blocked : r.state = .blocked) : r.takeLevels cfg d h = r.takeDwell d h := if_pos blocked

theorem PointRecord.takeLevels_of_fault (cfg : PointConfig) (d : Nat) {h : HandOver} {r : PointRecord}
    (unblocked : r.state ≠ .blocked) (bad : h.faulted = true) : r.takeLevels cfg d h = r.block := by
  rw [PointRecord.takeLevels, if_neg unblocked, if_pos bad]

/-- A row of the pair tables is no row of BLOCKED; a row that counts leads to IDLE, and one that blocks to BLOCKED. -/
theorem pairTable_ends : ∀ row ∈ pairTable,
    row.source ≠ .blocked ∧ (row.effect = .count → row.target = .idle) ∧
      (row.effect = .block → row.target = .blocked) := by
  decide

/-- With all healths OK a record outside BLOCKED takes the row of its pair (R19 to R22). -/
theorem PointRecord.takeLevels_eq_applyRow (cfg : PointConfig) (d : Nat) {h : HandOver} {r : PointRecord}
    {row : PairRow} (mem : row ∈ pairTable) (source : r.state = row.source) (good : h.faulted = false)
    (a : h.filteredA = row.a) (b : h.filteredB = row.b) : r.takeLevels cfg d h = r.applyRow cfg.spacing h row := by
  have unblocked : r.state ≠ .blocked := source ▸ (pairTable_ends row mem).1
  rw [← PointRecord.takePair_eq_applyRow cfg.spacing row mem source a b, PointRecord.takeLevels, if_neg unblocked,
    if_neg (by simp [good])]

theorem PointRecord.applyRow_state (spacing : Nat) (h : HandOver) {row : PairRow} (mem : row ∈ pairTable)
    (r : PointRecord) : (r.applyRow spacing h row).state = row.target := by
  obtain ⟨_, counts, blocks⟩ := pairTable_ends row mem
  unfold PointRecord.applyRow
  cases effect : row.effect
  case keep => rfl
  case capture => rfl
  case drop => rfl
  case count => exact (counts effect).symm
  case block => exact (blocks effect).symm

/-- Settles O12: a healthy completion takes the record through the row of its pair. -/
theorem pairTablesHold : Obligations.PairTablesHold := by
  refine ⟨rfl, fun s r p row listens inUse mem source => ⟨_, exec_sweepCompletion r s, ?_⟩⟩
  obtain ⟨cfg, used⟩ := State.pointInUse_iff.1 inUse
  have taken (good : healthy (s.completeSweep r) p) := PointRecord.takeLevels_eq_applyRow cfg s.dwellLength mem source
    ((State.handOver_good_iff _ _).2 good)
  rw [State.completeSweep_record listens used]
  constructor
  · intro good a b
    rw [PointRecord.evaluate_state, PointRecord.evaluate_lag, taken good a b, PointRecord.applyRow_state _ _ mem]
    refine ⟨rfl, ?_⟩
    unfold PointRecord.applyRow
    cases row.effect
    case capture => exact apply_ite some _ _ _
    all_goals rfl
  · intro good a b blocks
    rw [PointRecord.evaluate_dwell, taken good a b, PointRecord.applyRow, blocks]
    rfl

/-! ### A counted passage (R26, R29 to R31) -/

/-- The TRAIL state whose passage goes in this direction (R26). -/
def trailOf : Direction → RecognizerState
  | .ab => .trailA
  | .ba => .trailB

theorem trailOf_ne_blocked (way : Direction) : trailOf way ≠ .blocked := by cases way <;> decide

/-- A quiet completion in TRAIL counts the passage, and its record is NORMAL and FREE (R26, R33, R34). -/
theorem PointRecord.evaluate_of_passage (cfg : PointConfig) (d : Nat) {h : HandOver} (quiet : h.quiet = true)
    {r : PointRecord} {way : Direction} (trail : r.state = trailOf way) :
    r.evaluate cfg d h =
      { r.countPassage cfg.spacing way with
        condition := .normal
        head := .free
        serial := advanceSerial r.condition .normal (decide (cfg.vmax < r.speed cfg.spacing)) r.serial } := by
  obtain ⟨good, a, b⟩ := h.quiet_iff.1 quiet
  have counted : r.takeLevels cfg d h = r.countPassage cfg.spacing way := by
    cases way
    · exact PointRecord.takeLevels_eq_applyRow cfg d (row := ⟨.trailA, .free, .free, .idle, .count⟩) (by decide) trail
        good a b
    · exact PointRecord.takeLevels_eq_applyRow cfg d (row := ⟨.trailB, .free, .free, .idle, .count⟩) (by decide) trail
        good a b
  have condition : conditionOf .idle h = .normal := by simp [conditionOf, good]
  have speeds : r.overspeeds cfg h = decide (cfg.vmax < r.speed cfg.spacing) := by
    cases way <;> simp [PointRecord.overspeeds, PointRecord.countsPassage, good, a, b, trail, trailOf]
  unfold PointRecord.evaluate
  rw [counted, speeds]
  simp only [PointRecord.countPassage, condition, headOf]

theorem PointRecord.speed_of_lag (spacing : Nat) {r : PointRecord} {lag : Nat} (captured : r.lag = some lag) :
    r.speed spacing = speedOf spacing lag := by
  rw [PointRecord.speed, captured]
  rfl

/-- The serial of a record that stays NORMAL (R35). -/
theorem advanceSerial_normal (overspeed : Bool) (serial : Serial) :
    advanceSerial .normal .normal overspeed serial = if overspeed then serial + 1 else serial := by
  simp [advanceSerial]

/-- Settles O13: one passage in either direction. -/
theorem passagesAreCounted : Obligations.PassagesAreCounted := by
  intro s r p cfg lag listens used captured
  refine ⟨_, exec_sweepCompletion r s, ?_⟩
  rw [State.completeSweep_record listens used]
  have speed := PointRecord.speed_of_lag cfg.spacing captured
  have counted {way : Direction} (good : healthy (s.completeSweep r) p)
      (a : ((s.completeSweep r).front.get p).a.filtered = .free)
      (b : ((s.completeSweep r).front.get p).b.filtered = .free) (trail : (s.records.get p).state = trailOf way) :=
    PointRecord.evaluate_of_passage cfg s.dwellLength ((State.handOver_quiet_iff _ _).2 ⟨good, a, b⟩) trail
  have serial (normal : (s.records.get p).condition = .normal) :
      advanceSerial (s.records.get p).condition .normal (decide (cfg.vmax < speedOf cfg.spacing lag))
          (s.records.get p).serial =
        if cfg.vmax < speedOf cfg.spacing lag then (s.records.get p).serial + 1 else (s.records.get p).serial := by
    rw [normal, advanceSerial_normal]
    simp only [decide_eq_true_eq]
  constructor
  · intro good a b trail
    rw [counted (way := .ab) good a b trail, PointRecord.countPassage, speed]
    exact ⟨rfl, rfl, rfl, rfl, serial⟩
  · intro good a b trail
    rw [counted (way := .ba) good a b trail, PointRecord.countPassage, speed]
    exact ⟨rfl, rfl, rfl, rfl, serial⟩

/-- Counts and last passage change where a passage is counted, and nowhere else (R26). -/
theorem PointRecord.takeLevels_counts (cfg : PointConfig) (d : Nat) (h : HandOver) (r : PointRecord) :
    (h.quiet = true ∧ ∃ way, r.state = trailOf way) ∨
      ((r.takeLevels cfg d h).nAB = r.nAB ∧ (r.takeLevels cfg d h).nBA = r.nBA ∧
        (r.takeLevels cfg d h).last = r.last) := by
  rcases r.takeLevels_cases cfg d h with ⟨_, e⟩ | ⟨_, _, e⟩ | ⟨_, good, e⟩
  · rw [e, r.takeDwell_keeps d h]
    exact .inr ⟨rfl, rfl, rfl⟩
  · rw [e]
    exact .inr ⟨rfl, rfl, rfl⟩
  · rcases r.takePair_counts cfg.spacing h with ⟨trail, a, b, _⟩ | ⟨trail, a, b, _⟩ | kept
    · exact .inl ⟨h.quiet_iff.2 ⟨good, a, b⟩, .ab, trail⟩
    · exact .inl ⟨h.quiet_iff.2 ⟨good, a, b⟩, .ba, trail⟩
    · rw [e]
      exact .inr kept

/-! ### Which commands write a record -/

@[simp] theorem State.enterHalted_records (s : State) (cause : HaltCause) : (s.enterHalted cause).records = s.records :=
  (SamePoints.enterHalted s cause).records
@[simp] theorem State.enterLoading_records (s : State) (straps : Station) :
    (s.enterLoading straps).records = s.records := rfl
@[simp] theorem State.loadImage_records (s : State) (image : List Byte) : (s.loadImage image).records = s.records := rfl
@[simp] theorem State.enterListening_records (s : State) : s.enterListening.records = s.records := rfl
@[simp] theorem State.enterRunning_records (s : State) : s.enterRunning.records = s.records := rfl
@[simp] theorem State.expireAge_records (s : State) (m : EntryIndex) (e : MirrorEntry) :
    (s.expireAge m e).records = s.records := (SamePoints.expireAge s m e).records
@[simp] theorem State.enterMute_records (s : State) : s.enterMute.records = s.records :=
  (SamePoints.enterMute s).records
@[simp] theorem State.abortFrame_records (s : State) : s.abortFrame.records = s.records :=
  (SamePoints.abortFrame s).records
@[simp] theorem State.completeFrame_records (s : State) (lf : LayerFrame) : (s.completeFrame lf).records = s.records :=
  (SamePoints.completeFrame s lf).records
@[simp] theorem State.takeCharacter_records (s : State) (b : Byte) : (s.takeCharacter b).records = s.records :=
  (SamePoints.takeCharacter s b).records

/-- Reset and sweep completions alone write the records (R26, R38). -/
theorem exec_records (c : Instr) {s t : State} (h : exec c s = .next t) :
    (∃ k, c = .resetAssertion k) ∨ (∃ r, t = s.completeSweep r) ∨ t.records = s.records := by
  have sweptOrKept (r : Results) (happens : Bool) {u : State} (e : u = if happens then s.completeSweep r else s) :
      (∃ k, c = .resetAssertion k) ∨ (∃ r, u = s.completeSweep r) ∨ u.records = s.records := by
    cases happens
    · exact .inr (.inr (e ▸ rfl))
    · exact .inr (.inl ⟨r, e⟩)
  cases c <;> obtain rfl := Host.Outcome.next.inj h
  case resetAssertion k => exact .inl ⟨k, rfl⟩
  case sweepCompletion r => exact .inr (.inl ⟨r, rfl⟩)
  case filteredLevelChange r _ _ | channelFaulted r _ _ | channelRecovered r _ _ | referenceFaulted r
      | referenceRecovered r | dwellEnd r _ | toggleHalfPeriod r _ => exact sweptOrKept r _ rfl
  case countReport => exact .inr (.inr (SamePoints.endHandling s _ fun f => .handleCountReport f s).records)
  case settleAnswer => exact .inr (.inr (SamePoints.endHandling s _ fun f => .handleSettleAnswer f s).records)
  case settleRequest => exact .inr (.inr (SamePoints.endHandling s _ fun f => .handleSettleRequest f s).records)
  case restoreCommand => exact .inr (.inr (SamePoints.endHandling s _ fun f => .handleRestoreCommand f s).records)
  case sectionStatus | class7FrameHandled =>
    exact .inr (.inr (SamePoints.endHandling s _ fun _ => .refl s).records)
  case ageTimerExpiry | deadlineExpiry | holdOffExpiry | frameCompletion | framingError =>
    right; right
    split <;> simp [apply_ite State.records]
  case resetRelease | configurationReadComplete | loadingTimerExpiry | listeningTimerExpiry | reportTimerExpiry
      | statusTimerExpiry | nextLayerLoad | liveLayerMove | idleCompletion | arbitrationWon | lostArbitration | bitError
      | mute | badLength | receiverFrameComplete | startBit | characterComplete =>
    right; right
    simp [apply_ite State.records]

/-- Settles O14: only a sweep completion and reset write records, and an evaluation changes counts by a passage. -/
theorem countsChangeOnlyAtPassages : Obligations.CountsChangeOnlyAtPassages := by
  intro c s t p h changed
  rcases exec_records c h with reset | ⟨r, rfl⟩ | kept
  · exact .inl reset
  · right
    cases listens : s.mode.listens
    · simp [State.completeSweep_silent listens] at changed
    cases config : s.pointConfig p with
    | none => simp [State.completeSweep_record_unused config] at changed
    | some cfg =>
      have record := State.completeSweep_record listens config r
      rcases (s.records.get p).takeLevels_counts cfg s.dwellLength ((s.completeSweep r).handOver p) with
        ⟨quiet, way, trail⟩ | ⟨nAB, nBA, last⟩
      · obtain ⟨good, a, b⟩ := (State.handOver_quiet_iff _ _).1 quiet
        rw [record, PointRecord.evaluate_of_passage cfg s.dwellLength quiet trail]
        refine ⟨State.pointInUse_iff.2 ⟨cfg, config⟩, rfl, good, rfl, a, b, ?_⟩
        cases way
        · exact .inl ⟨trail, rfl, rfl⟩
        · exact .inr ⟨trail, rfl, rfl⟩
      · simp [record, nAB, nBA, last] at changed
  · simp [kept] at changed

/-! ### Condition, head and serial (R33 to R35) -/

theorem conditionOf_disturbed_iff (state : RecognizerState) (h : HandOver) :
    conditionOf state h = .disturbed ↔ h.faulted = false ∧ state = .blocked := by
  unfold conditionOf
  cases h.faulted <;> by_cases b : state = .blocked <;> simp [b]

theorem conditionOf_normal_iff (state : RecognizerState) (h : HandOver) :
    conditionOf state h = .normal ↔ h.faulted = false ∧ state ≠ .blocked := by
  unfold conditionOf
  cases h.faulted <;> by_cases b : state = .blocked <;> simp [b]

/-- R34 in the six passage states. -/
theorem headOf_passage {state : RecognizerState} (passage : inPassage state) (condition : Condition) (h : HandOver) :
    headOf state condition h = .wheelOn := by
  obtain ⟨notIdle, unblocked⟩ := passage
  cases state
  case idle => exact absurd rfl notIdle
  case blocked => exact absurd rfl unblocked
  all_goals rfl

theorem headOf_blocked_iff (condition : Condition) (h : HandOver) :
    headOf .blocked condition h = .wheelOn ↔
      h.filteredA = .damped ∨ h.filteredB = .damped ∨ condition = .faulted := by
  simp [headOf, or_iff_not_imp_left]

/-- The serial advances on leaving NORMAL. -/
theorem advanceSerial_leaves {after : Condition} (leaves : after ≠ .normal) (overspeed : Bool) (serial : Serial) :
    advanceSerial .normal after overspeed serial = serial + 1 := by
  simp [advanceSerial, leaves]

/-- The serial is kept where the record does not leave NORMAL and no overspeed passage is counted. -/
theorem advanceSerial_kept {before after : Condition} (stays : before = .normal → after = .normal) (serial : Serial) :
    advanceSerial before after false serial = serial := by
  simpa [advanceSerial] using stays

/-- R30: an overspeed passage is counted at a quiet completion in TRAIL, and the speed comes of a captured lag. -/
theorem PointRecord.overspeeds_elim {cfg : PointConfig} {h : HandOver} {r : PointRecord}
    (fast : r.overspeeds cfg h = true) :
    h.quiet = true ∧ (∃ way, r.state = trailOf way) ∧
      ∃ lag, r.lag = some lag ∧ cfg.vmax < speedOf cfg.spacing lag := by
  obtain ⟨⟨⟨⟨good, trail⟩, a⟩, b⟩, speed⟩ :
      (((h.faulted = false ∧ (r.state = .trailA ∨ r.state = .trailB)) ∧ h.filteredA = .free) ∧ h.filteredB = .free) ∧
        cfg.vmax < r.speed cfg.spacing := by
    simpa [PointRecord.overspeeds, PointRecord.countsPassage] using fast
  refine ⟨h.quiet_iff.2 ⟨good, a, b⟩, trail.elim (fun t => ⟨.ab, t⟩) (fun t => ⟨.ba, t⟩), ?_⟩
  cases captured : r.lag with
  | none => simp [PointRecord.speed, captured, passageSpeed] at speed
  | some lag => exact ⟨lag, rfl, PointRecord.speed_of_lag cfg.spacing captured ▸ speed⟩

theorem PointRecord.overspeeds_of_blocked (cfg : PointConfig) (h : HandOver) {r : PointRecord}
    (blocked : r.state = .blocked) : r.overspeeds cfg h = false := by
  simp [PointRecord.overspeeds, PointRecord.countsPassage, blocked]

/-- Settles O15: condition and head are read off the state of the record, and the serial follows R35. -/
theorem conditionHeadAndSerial : Obligations.ConditionHeadAndSerial := by
  intro s r p listens inUse
  obtain ⟨cfg, used⟩ := State.pointInUse_iff.1 inUse
  refine ⟨_, exec_sweepCompletion r s, ?_⟩
  rw [State.completeSweep_record listens used]
  simp only [← State.handOver_good_iff, PointRecord.evaluate_condition, PointRecord.evaluate_head,
    PointRecord.evaluate_serial, PointRecord.evaluate_state]
  refine ⟨by rw [conditionOf_faulted_iff, Bool.not_eq_false], conditionOf_disturbed_iff _ _, conditionOf_normal_iff _ _,
    fun idle => by rw [idle]; rfl, fun passage => headOf_passage passage _ _,
    fun blocked => by rw [blocked]; exact headOf_blocked_iff _ _,
    fun normal leaves => by rw [normal]; exact advanceSerial_leaves leaves _ _, ?_, ?_⟩
  · intro disturbed blocked
    rw [PointRecord.overspeeds_of_blocked cfg _ blocked, advanceSerial_kept fun n => absurd n disturbed]
  · intro cfg' used' _ stays noOverspeed
    obtain rfl : cfg = cfg' := Option.some.inj (used.symm.trans used')
    have slow : (s.records.get p).overspeeds cfg ((s.completeSweep r).handOver p) = false := by
      refine Bool.eq_false_iff.2 fun fast => noOverspeed ?_
      obtain ⟨quiet, ⟨way, trail⟩, lag⟩ := PointRecord.overspeeds_elim fast
      refine ⟨?_, ?_, lag⟩
      · cases way
        · exact .inl trail
        · exact .inr trail
      · rw [← PointRecord.evaluate_state, PointRecord.evaluate_of_passage cfg s.dwellLength quiet trail]
        rfl
    rw [slow, advanceSerial_kept fun _ => stays]

/-! ### BLOCKED and its dwell (R23 to R25) -/

/-- Settles O16: a fault blocks the record, and in BLOCKED only the dwell is evaluated. -/
theorem blockedAndDwell : Obligations.BlockedAndDwell := by
  intro s r p listens inUse
  obtain ⟨cfg, used⟩ := State.pointInUse_iff.1 inUse
  refine ⟨_, exec_sweepCompletion r s, ?_⟩
  rw [State.completeSweep_record listens used]
  simp only [PointRecord.evaluate_state, PointRecord.evaluate_lag, PointRecord.evaluate_dwell, PointRecord.evaluate_nAB,
    PointRecord.evaluate_nBA, PointRecord.evaluate_last]
  refine ⟨fun unblocked bad => ?_, fun blocked noisy => ?_, fun blocked good a b short => ?_⟩
  · rw [PointRecord.takeLevels_of_fault cfg _ unblocked ((State.handOver_faulted_iff_not_healthy _ _).2 bad)]
    exact ⟨rfl, rfl, rfl, rfl, rfl, rfl⟩
  · rw [← State.handOver_quiet_iff] at noisy
    rw [PointRecord.takeLevels_of_blocked cfg _ _ blocked, PointRecord.takeDwell, if_neg noisy]
    exact ⟨blocked, rfl⟩
  · have quiet := (State.handOver_quiet_iff _ _).2 ⟨good, a, b⟩
    rw [PointRecord.takeLevels_of_blocked cfg _ _ blocked, PointRecord.takeDwell, if_pos quiet, if_neg short]
    exact ⟨blocked, rfl⟩

/-- The last quiet completion of a dwell: the whole record (R25, R33 to R35). -/
theorem PointRecord.evaluate_of_dwellEnd (cfg : PointConfig) {d : Nat} {h : HandOver} {r : PointRecord}
    (blocked : r.state = .blocked) (quiet : h.quiet = true) (last : r.dwell + 1 = d) :
    r.evaluate cfg d h = { r with state := .idle, dwell := 0, condition := .normal, head := .free } := by
  have settled : r.takeLevels cfg d h = { r with state := .idle, dwell := 0 } := by
    rw [PointRecord.takeLevels_of_blocked cfg d h blocked, PointRecord.takeDwell, if_pos quiet, if_pos last]
  have condition : conditionOf .idle h = .normal :=
    (conditionOf_normal_iff _ _).2 ⟨(h.quiet_iff.1 quiet).1, by decide⟩
  unfold PointRecord.evaluate
  rw [settled, PointRecord.overspeeds_of_blocked cfg h blocked]
  simp only [condition, headOf, advanceSerial_kept fun _ => rfl]

theorem exec_dwellEnd (r : Results) (p : PointIndex) (s : State) :
    exec (.dwellEnd r p) s = .next (if s.dwellEndsIn r p then s.completeSweep r else s) := rfl

/-- Settles O17: the row is the completion, and the record is that of the dwell's end. -/
theorem dwellEndCompletes : Obligations.DwellEndCompletes := by
  intro s r p c listens config inUse blocked good a b last
  obtain ⟨cfg, used⟩ := State.pointInUse_iff.1 inUse
  have length : (s.records.get p).dwell + 1 = s.dwellLength := by
    rw [last, State.dwellLength, config]
    rfl
  have quiet := (State.handOver_quiet_iff _ _).2 ⟨good, a, b⟩
  have ends : s.dwellEndsIn r p = true := by
    simp [State.dwellEndsIn, PointRecord.dwellEnds, inUse, blocked, quiet, length]
  refine ⟨s.completeSweep r, by rw [exec_dwellEnd, if_pos ends], exec_sweepCompletion r s, ?_⟩
  rw [State.completeSweep_record listens used, State.completeSweep_handOver listens,
    PointRecord.evaluate_of_dwellEnd cfg blocked quiet length]
  exact ⟨rfl, rfl, rfl, rfl, rfl, rfl, rfl, rfl⟩

end Sys2Proof.Machine

namespace Sys2Proof.Machine

open Sys2Proof.Claims

/-! ## Proofs: the reports of the local points

The statements about the pending list, the frames of the two layers and the part mode. Two invariants carry the long
ones: every unstarted frame follows the state (`FramesFollow`), and the pending list with the next layer stays in order
(`Transmitter.ListSound`). Each operation has one lemma for each. -/

/-! ### The lists of indices are whole -/

theorem mem_allPoints : ∀ p : PointIndex, p ∈ allPoints := by decide

theorem mem_allSlots : ∀ n : Slot, n ∈ allSlots := by decide

theorem mem_allEntries : ∀ m : EntryIndex, m ∈ allEntries := by decide

/-! ### The bits of a frame on the line -/

/-- The bit of a character at a place below 10 (R59). -/
theorem characterBits_getElem? (b : Byte) {i : Nat} (h : i < 10) :
    (characterBits b)[i]? = some (i ≠ 0 && (i = 9 || b.getLsbD (8 - i))) := by
  interval_cases i <;> rfl

/-- The bit of a whole frame is the bit of the character it falls in (R59). -/
theorem frameBits_getElem? (bytes : List Byte) (position : Nat) :
    (frameBits bytes)[position]? = (bytes[position / 10]?).map fun b =>
      position % 10 ≠ 0 && (position % 10 = 9 || b.getLsbD (8 - position % 10)) := by
  induction bytes generalizing position with
  | nil => simp [frameBits]
  | cons b rest ih =>
    have split : frameBits (b :: rest) = characterBits b ++ frameBits rest := List.flatMap_cons
    rw [split, List.getElem?_append, characterBits_length]
    by_cases first : position < 10
    · rw [if_pos first, characterBits_getElem? b first, Nat.div_eq_of_lt first, Nat.mod_eq_of_lt first]
      rfl
    · rw [if_neg first, ih, show position / 10 = (position - 10) / 10 + 1 by omega,
        show (position - 10) % 10 = position % 10 by omega, List.getElem?_cons_succ]

theorem Transmitter.liveBits_getElem? {t : Transmitter} {lf : LayerFrame} (live : t.live = some lf) (position : Nat) :
    t.liveBits[position]? = frameBit lf.frame position := by
  unfold Transmitter.liveBits
  rw [live]
  exact frameBits_getElem? _ _

/-- A bit error in SENDING is a later bit of the live frame read with the other value (R76). -/
theorem Transmitter.bitErrorAt_sending {t : Transmitter} {position : Nat} {samples : BitSamples}
    (sending : t.state = .sending) (error : t.bitErrorAt position samples = true) :
    ∃ lf, t.live = some lf ∧ frameBit lf.frame position = some (!bitValue samples) := by
  have sent : t.sentBit position = some (!bitValue samples) := by
    rcases (t.bitErrorAt_iff position samples).1 error with ⟨bit, value⟩ | ⟨bit, _, value⟩ <;> simp [bit, value]
  have bits : t.sentBit position = t.liveBits[position]? := by
    rcases t.sentBit_cases position with ⟨arbitrating, _⟩ | ⟨_, _, e⟩ | none
    · exact nomatch arbitrating.symm.trans sending
    · exact e
    · exact nomatch none.symm.trans sent
  cases live : t.live with
  | none => simp [bits, Transmitter.liveBits, live] at sent
  | some lf => exact ⟨lf, rfl, by rw [← Transmitter.liveBits_getElem? live, ← bits, sent]⟩

/-! ### The part mode at each operation -/

/-- The entry to HALTED (R182). -/
theorem State.enterHalted_mode {s : State} (h : s.mode ≠ .halted) (cause : HaltCause) :
    (s.enterHalted cause).mode = .halted ∧ (s.enterHalted cause).cause = some cause := by
  rw [State.enterHalted_eq h]
  exact ⟨rfl, rfl⟩

@[simp] theorem State.present_mode (s : State) (source : Station) (c : PointContent) :
    (s.present source c).mode = s.mode := by
  rw [State.present_eq]
  rfl

@[simp] theorem State.expireAge_mode (s : State) (m : EntryIndex) (e : MirrorEntry) :
    (s.expireAge m e).mode = s.mode := by
  unfold State.expireAge
  split <;> simp

@[simp] theorem State.completeFrame_mode (s : State) (lf : LayerFrame) : (s.completeFrame lf).mode = s.mode := by
  unfold State.completeFrame
  simp [apply_ite State.mode]

theorem State.finishHandling_mode (s : State) : s.finishHandling.mode = s.mode := rfl

/-- The end of a handling keeps the mode where the frame's effect does. -/
theorem State.endHandling_mode {s : State} (ofClass : Nat → Bool) {effect : Received → State → State}
    (keeps : ∀ f, (effect f s).mode = s.mode) : (s.endHandling ofClass effect).mode = s.mode := by
  rcases s.endHandling_cases ofClass effect with ⟨e, _⟩ | ⟨_, _, _, _, ⟨_, e⟩ | ⟨f, _, e⟩⟩ <;> rw [e]
  · exact s.finishHandling_mode
  · rw [State.driveAttn_mode, State.preempt_mode, State.finishHandling_mode, keeps]

@[simp] theorem handleCountReport_mode (f : Received) (s : State) : (handleCountReport f s).mode = s.mode := by
  unfold handleCountReport
  split <;> simp

@[simp] theorem handleSettleAnswer_mode (f : Received) (s : State) : (handleSettleAnswer f s).mode = s.mode := by
  unfold handleSettleAnswer State.answerRound
  split <;> simp [apply_ite State.mode]

@[simp] theorem handleSettleRequest_mode (f : Received) (s : State) : (handleSettleRequest f s).mode = s.mode := by
  unfold handleSettleRequest
  split
  · rw [foldl_answerPoint_eq]
    simp [apply_ite State.mode]
  · rfl

@[simp] theorem handleRestoreCommand_mode (f : Received) (s : State) : (handleRestoreCommand f s).mode = s.mode := by
  unfold handleRestoreCommand
  split <;> simp [apply_ite State.mode]

/-- The end of a character changes the mode at a clash alone (R86), and there the byte completes a frame. -/
theorem State.takeCharacter_mode (s : State) (b : Byte) :
    (s.takeCharacter b).mode = s.mode ∨ (s.rx.completes b = true ∧ (s.mode ≠ .halted →
      (s.takeCharacter b).mode = .halted ∧ (s.takeCharacter b).cause = some .clash)) := by
  rcases s.takeCharacter_cases b with ⟨_, _, e⟩ | ⟨whole, e⟩ | ⟨_, _, e⟩ <;> rw [e]
  · exact .inl rfl
  · rcases State.judgeFrame_cases (s.withRx (s.rx.takeByte b)) (s.rx.takeByte b).buffer with
      ⟨_, e⟩ | ⟨_, _, _, e⟩ | ⟨_, _, _, e⟩ | ⟨_, _, e⟩ <;> rw [e]
    · exact .inl rfl
    · exact .inl rfl
    · exact .inr ⟨whole, fun h => State.enterHalted_mode (by exact h) _⟩
    · exact .inl rfl
  · exact .inl rfl

/-- A character that is a bad length discards the frame and no more (R83). -/
theorem State.takeCharacter_badLength {s : State} {b : Byte} (length : s.rx.atLength = true)
    (bad : goodLength b = false) : s.takeCharacter b = s.withRx (s.rx.takeByte b).discard := by
  unfold State.takeCharacter
  simp [length, bad, State.withRx]

/-- The sixteenth failure halts the part with cause MUTE (R77). -/
theorem State.enterMute_mode {s : State} (h : s.mode ≠ .halted) :
    s.enterMute.mode = .halted ∧ s.enterMute.cause = some .mute := State.enterHalted_mode (by exact h) _

/-- A failed frame halts the part or keeps its mode (R76, R77). -/
theorem State.abortFrame_mode {s : State} (h : s.mode ≠ .halted) :
    s.abortFrame.mode = s.mode ∨ s.abortFrame.mode = .halted ∧ s.abortFrame.cause = some .mute := by
  unfold State.abortFrame
  split
  · exact .inr (State.enterMute_mode h)
  · exact .inl rfl

/-! ### The table of the part mode, and HALTED -/

/-- A command that changes the part mode is one of the table (R175, R178 to R183). -/
theorem exec_transition (c : Instr) {s t : State} (h : exec c s = .next t) (moved : t.mode ≠ s.mode) :
    transition s c t := by
  unfold transition
  cases c <;> obtain rfl := Host.Outcome.next.inj h
  case resetAssertion k =>
    split at moved
    · rename_i long
      rw [if_pos long]
      exact .inl ⟨⟨k, long, rfl⟩, rfl, rfl⟩
    · exact absurd rfl moved
  case resetRelease straps =>
    split at moved
    · rename_i held
      rw [if_pos held]
      have halted : s.mode ≠ .halted := by rw [held]; decide
      by_cases zero : straps = 0
      · rw [if_pos zero]
        obtain ⟨mode, cause⟩ := State.enterHalted_mode halted .config
        exact .inr (.inr (.inl ⟨held, zero ▸ rfl, mode, cause⟩))
      · rw [if_neg zero]
        exact .inr (.inl ⟨held, ⟨straps, zero, rfl⟩, rfl⟩)
    · exact absurd rfl moved
  case configurationReadComplete levels =>
    split at moved
    · rename_i reading
      rw [if_pos reading]
      have halted : s.mode ≠ .halted := by rw [reading.1]; decide
      split at moved
      · exact absurd rfl moved
      · rename_i bad
        rw [if_neg bad]
        obtain ⟨mode, cause⟩ := State.enterHalted_mode halted .config
        exact .inr (.inr (.inr (.inl ⟨reading.1, ⟨levels, rfl⟩, mode, cause⟩)))
    · exact absurd rfl moved
  case loadingTimerExpiry =>
    split at moved
    · rename_i due
      rw [if_pos due]
      exact .inr (.inr (.inr (.inr (.inl ⟨due.1, rfl, due.2.2, rfl⟩))))
    · exact absurd rfl moved
  case listeningTimerExpiry =>
    split at moved
    · rename_i due
      rw [if_pos due]
      exact .inr (.inr (.inr (.inr (.inr (.inl ⟨due.1, rfl, rfl⟩)))))
    · exact absurd rfl moved
  case receiverFrameComplete data =>
    split at moved
    · rename_i due
      rw [if_pos due]
      have halted : s.mode ≠ .halted := fun e => by simp [e, Mode.listens] at due
      obtain ⟨mode, cause⟩ := ((s.takeCharacter_mode _).resolve_left moved).2 halted
      exact .inr (.inr (.inr (.inr (.inr (.inr (.inl ⟨due.1, ⟨data, .inl rfl⟩, mode, cause⟩))))))
    · exact absurd rfl moved
  case characterComplete data =>
    split at moved
    · rename_i due
      rw [if_pos due]
      have halted : s.mode ≠ .halted := fun e => by simp [e, Mode.listens] at due
      obtain ⟨mode, cause⟩ := ((s.takeCharacter_mode _).resolve_left moved).2 halted
      exact .inr (.inr (.inr (.inr (.inr (.inr (.inl ⟨due.1, ⟨data, .inr rfl⟩, mode, cause⟩))))))
    · exact absurd rfl moved
  case badLength data =>
    split at moved
    · rename_i due
      rw [State.takeCharacter_badLength due.2.1 due.2.2] at moved
      exact absurd rfl moved
    · exact absurd rfl moved
  case bitError position samples =>
    by_cases error : s.tx.bitErrorAt position samples = true
    · rw [if_pos error] at moved ⊢
      by_cases running : s.mode = .running
      · rw [if_pos running] at moved ⊢
        have halted : s.mode ≠ .halted := by rw [running]; decide
        obtain ⟨mode, cause⟩ := (State.abortFrame_mode halted).resolve_left moved
        exact .inr (.inr (.inr (.inr (.inr (.inr (.inr
          ⟨running, ⟨position, samples, .inr rfl⟩, mode, cause⟩))))))
      · rw [if_neg running] at moved
        split at moved <;> exact absurd rfl moved
    · rw [if_neg error] at moved
      exact absurd rfl moved
  case mute position samples =>
    split at moved
    · rename_i due
      rw [if_pos due]
      have halted : s.mode ≠ .halted := by rw [due.1]; decide
      obtain ⟨mode, cause⟩ := State.enterMute_mode halted
      exact .inr (.inr (.inr (.inr (.inr (.inr (.inr ⟨due.1, ⟨position, samples, .inl rfl⟩, mode, cause⟩))))))
    · exact absurd rfl moved
  case countReport => exact absurd (State.endHandling_mode _ fun f => handleCountReport_mode f s) moved
  case settleAnswer => exact absurd (State.endHandling_mode _ fun f => handleSettleAnswer_mode f s) moved
  case settleRequest => exact absurd (State.endHandling_mode _ fun f => handleSettleRequest_mode f s) moved
  case restoreCommand => exact absurd (State.endHandling_mode _ fun f => handleRestoreCommand_mode f s) moved
  case sectionStatus | class7FrameHandled => exact absurd (State.endHandling_mode _ fun _ => rfl) moved
  case ageTimerExpiry | deadlineExpiry | holdOffExpiry | frameCompletion | framingError =>
    refine absurd ?_ moved
    split <;> simp [apply_ite State.mode]
  all_goals
    refine absurd ?_ moved
    simp [apply_ite State.mode, State.completeSweep_mode]

/-- The START counter of a point, one less (R49). -/
def State.spend (s : State) (p : PointIndex) : State :=
  s.withTx { s.tx with startCounters := s.tx.startCounters.set p (s.tx.startCounters.get p - 1) }

/-- A frame without START spends nothing; one of a point spends one, and the last one rebuilds the point's unstarted
frames (R49). -/
theorem State.spendStart_cases (s : State) (f : Frame) :
    (f.startPoint = none ∧ s.spendStart f = s) ∨
      ∃ p, f.startPoint = some p ∧
        ((s.tx.startCounters.get p = 1 ∧
            s.spendStart f = (s.spend p).refresh (EntryKind.carriesPoint p) sameClass) ∨
          (s.tx.startCounters.get p ≠ 1 ∧ s.spendStart f = s.spend p)) := by
  unfold State.spendStart
  cases point : f.startPoint with
  | none => exact .inl ⟨rfl, rfl⟩
  | some p =>
    refine .inr ⟨p, rfl, ?_⟩
    by_cases last : s.tx.startCounters.get p = 1
    · exact .inl ⟨last, if_pos last⟩
    · exact .inr ⟨last, if_neg last⟩

/-- A completed frame's START counter goes down, and the other counters stand (R49). -/
theorem State.spendStart_startCounters (s : State) (f : Frame) (p : PointIndex) :
    (s.spendStart f).tx.startCounters.get p =
      if f.startPoint = some p then s.tx.startCounters.get p - 1 else s.tx.startCounters.get p := by
  have spent (q : PointIndex) : (s.spend q).tx.startCounters.get p =
      if some q = some p then s.tx.startCounters.get p - 1 else s.tx.startCounters.get p := by
    by_cases same : q = p
    · simp [State.spend, same]
    · rw [if_neg (by simpa using same)]
      exact Table.get_set_other _ _ (Ne.symm same)
  rcases s.spendStart_cases f with ⟨none, e⟩ | ⟨q, point, ⟨_, e⟩ | ⟨_, e⟩⟩
  · rw [e, none]
    rfl
  · rw [e, point]
    exact spent q
  · rw [e, point]
    exact spent q

/-- Spending a START frame writes the START counters and, in the layers, rebuilt frames (R49). -/
theorem State.spendStart_tx (s : State) (f : Frame) :
    (s.spendStart f).tx = { s.tx with
      startCounters := (s.spendStart f).tx.startCounters
      next := (s.spendStart f).tx.next
      live := (s.spendStart f).tx.live } := by
  rcases s.spendStart_cases f with ⟨_, e⟩ | ⟨_, _, ⟨_, e⟩ | ⟨_, e⟩⟩ <;> rw [e] <;> rfl

/-- No layer that holds nothing and no live layer that is not WAITING takes part (R49, R70). -/
theorem State.spendStart_layers (s : State) (f : Frame) :
    (s.tx.next = none → (s.spendStart f).tx.next = none) ∧
      (s.tx.state ≠ .waiting → (s.spendStart f).tx.live = s.tx.live) := by
  rcases s.spendStart_cases f with ⟨_, e⟩ | ⟨p, _, ⟨_, e⟩ | ⟨_, e⟩⟩ <;> rw [e]
  · exact ⟨id, fun _ => rfl⟩
  · exact ⟨fun h => congrArg (Option.map _) h, fun h => if_neg h⟩
  · exact ⟨id, fun _ => rfl⟩

/-- The part at a completion, before the START counter is spent: QUIET, no failures, no live frame, the frame remembered
while the receiver runs (R75, R85). -/
def State.sentFrame (s : State) (lf : LayerFrame) : State :=
  let emptied := s.withTx { s.tx with state := .quiet, failures := 0, live := none }
  if s.mode = .running then emptied.withRx { s.rx with sent := some lf.frame.encode } else emptied

theorem State.completeFrame_eq (s : State) (lf : LayerFrame) :
    s.completeFrame lf = (s.sentFrame lf).spendStart lf.frame := rfl

@[simp] theorem State.sentFrame_tx (s : State) (lf : LayerFrame) :
    (s.sentFrame lf).tx = { s.tx with state := .quiet, failures := 0, live := none } := by
  unfold State.sentFrame
  dsimp only
  split <;> rfl

/-- The transmitter after the completion of its frame (R75, R49). -/
theorem State.completeFrame_tx (s : State) (lf : LayerFrame) :
    (s.completeFrame lf).tx = { s.tx with
      state := .quiet, failures := 0, live := none, next := (s.completeFrame lf).tx.next
      startCounters := (s.completeFrame lf).tx.startCounters } := by
  have live := (State.spendStart_layers (s.sentFrame lf) lf.frame).2 (by simp)
  rw [State.completeFrame_eq, State.spendStart_tx, live, State.sentFrame_tx]

end Sys2Proof.Machine

namespace Sys2Proof.Machine

open Sys2Proof.Claims

@[simp] theorem State.completeFrame_startCounters (s : State) (lf : LayerFrame) (p : PointIndex) :
    (s.completeFrame lf).tx.startCounters.get p =
      if lf.frame.startPoint = some p then s.tx.startCounters.get p - 1 else s.tx.startCounters.get p := by
  rw [State.completeFrame_eq, State.spendStart_startCounters, State.sentFrame_tx]

/-- An empty next layer stays empty at a completion (R75). -/
theorem State.completeFrame_next_none {s : State} (lf : LayerFrame) (h : s.tx.next = none) :
    (s.completeFrame lf).tx.next = none := by
  rw [State.completeFrame_eq]
  exact (State.spendStart_layers _ _).1 (by rw [State.sentFrame_tx]; exact h)

/-- In HALTED a completion writes the transmitter alone (R79). -/
theorem State.completeFrame_halted {s : State} (h : s.mode = .halted) (lf : LayerFrame) :
    s.completeFrame lf = s.withTx (s.completeFrame lf).tx := by
  rw [State.completeFrame_eq, State.spendStart_eq, State.sentFrame, if_neg (by rw [h]; decide)]
  rfl

/-- A frame that is being finished in HALTED: broken off at a bit error, or completed (R79). -/
def finishing (c : Instr) (s t : State) : Prop :=
  s.tx.state = .sending ∧ ∃ lf, s.tx.live = some lf ∧
    ((∃ position samples, c = .bitError position samples ∧ frameBit lf.frame position = some (!bitValue samples) ∧
        t = s.withTx { s.tx with state := .quiet, live := none }) ∨
      (∃ samples, c = .frameCompletion samples ∧ bitValue samples = true ∧ t = s.completeFrame lf))

/-- In HALTED every command but reset leaves the state, but for a frame being finished (R79, R182). -/
theorem exec_halted (c : Instr) {s t : State} (h : exec c s = .next t) (halted : s.mode = .halted)
    (noReset : ∀ k, 2 ≤ k → c ≠ .resetAssertion k) : t = s ∨ finishing c s t := by
  have deaf : Mode.halted.listens = false := rfl
  have silent : s.mode.listens = false := by rw [halted, deaf]
  have handling (ofClass : Nat → Bool) (effect : Received → State → State) : s.endHandling ofClass effect = s := by
    rcases s.endHandling_cases ofClass effect with ⟨e, _⟩ | ⟨_, _, listens, _⟩
    · exact e
    · exact nomatch silent.symm.trans listens
  cases c <;> obtain rfl := Host.Outcome.next.inj h
  case resetAssertion k => exact .inl (if_neg fun long => noReset k long rfl)
  case bitError position samples =>
    by_cases error : s.tx.bitErrorAt position samples = true ∧ s.tx.state = .sending
    · obtain ⟨lf, live, bit⟩ := Transmitter.bitErrorAt_sending error.2 error.1
      refine .inr ⟨error.2, lf, live, .inl ⟨position, samples, rfl, bit, ?_⟩⟩
      rw [if_pos error.1, if_neg (by rw [halted]; decide), if_pos ⟨halted, error.2⟩]
      rfl
    · left
      split
      · rename_i bit
        rw [if_neg (by rw [halted]; decide), if_neg fun due => error ⟨bit, due.2⟩]
      · rfl
  case frameCompletion samples =>
    cases live : s.tx.live with
    | none => exact .inl rfl
    | some lf =>
      by_cases due : s.tx.state = .sending ∧ bitValue samples = true
      · exact .inr ⟨due.1, lf, live, .inr ⟨samples, rfl, due.2, if_pos ⟨due.1, .inr halted, due.2⟩⟩⟩
      · exact .inl (if_neg fun all => due ⟨all.1, all.2.2⟩)
  case sweepCompletion | filteredLevelChange | channelFaulted | channelRecovered | referenceFaulted | referenceRecovered
      | dwellEnd | toggleHalfPeriod =>
    left
    simp [State.completeSweep_silent silent]
  case countReport | settleAnswer | settleRequest | sectionStatus | restoreCommand | class7FrameHandled =>
    exact .inl (handling _ _)
  case ageTimerExpiry | deadlineExpiry | holdOffExpiry | framingError =>
    left
    split <;> simp [halted, deaf]
  all_goals
    left
    simp [halted, deaf]

/-- Settles O49: by the table of the commands, and in HALTED by what a frame being finished leaves. -/
theorem modeTransitionsAndHalted : Obligations.ModeTransitionsAndHalted := by
  intro c s t h
  refine ⟨exec_transition c h, fun halted noReset => ?_⟩
  rcases exec_halted c h halted noReset with same | ⟨sending, lf, live, broken | ⟨samples, rfl, one, rfl⟩⟩
  · exact .inl same
  · exact .inr ⟨sending, lf, live, .inl broken⟩
  · refine .inr ⟨sending, lf, live, .inr ⟨samples, rfl, one, ?_, State.completeFrame_next_none lf,
      State.completeFrame_startCounters s lf⟩⟩
    conv_lhs => rw [State.completeFrame_halted halted, State.completeFrame_tx]

end Sys2Proof.Machine

namespace Sys2Proof.Machine

open Sys2Proof.Claims

/-! ### Fields of a byte, as numbers -/

/-- Two fields side by side, the first the more significant. -/
theorem toNat_append_add {m n : Nat} (x : BitVec m) (y : BitVec n) :
    (x ++ y).toNat = 2 ^ n * x.toNat + y.toNat := by
  rw [BitVec.toNat_append, ← Nat.shiftLeft_add_eq_or_of_lt y.isLt, Nat.shiftLeft_eq, Nat.mul_comm]

/-- A word is its two bytes, the more significant first (R61). -/
theorem word_highByte_lowByte (w : BitVec 16) : word (highByte w) (lowByte w) = w.toNat := by
  have bound := w.isLt
  simp only [word, highByte, lowByte, BitVec.extractLsb'_toNat, Nat.shiftRight_eq_div_pow]
  omega

theorem flagCode_toNat (b : Bool) : (flagCode b).toNat = bitOf b := by cases b <;> rfl

theorem Head.code_toNat (h : Head) : h.code.toNat = bitOf (h = .wheelOn) := by cases h <;> rfl

theorem Condition.code_toNat (c : Condition) : c.code.toNat = conditionNumber c := by cases c <;> rfl

theorem directionCode_toNat (d : Option Direction) : (directionCode d).toNat = directionNumber d := by
  rcases d with _ | _ | _ <;> rfl

theorem SectionState.code_toNat (st : SectionState) : st.code.toNat = stateNumber st := by cases st <;> rfl

theorem causeCode_toNat (c : Option DisturbanceCause) : (causeCode c).toNat = causeNumber c := by
  rcases c with _ | _ | _ | _ | _ | _ | _ | _ | _ <;> rfl

theorem RestoreOutcome.code_toNat (o : RestoreOutcome) : o.code.toNat = outcomeNumber o := by cases o <;> rfl

/-- A speed word is 65535 without a passage, and else the speed (R31, R48). -/
theorem speedWord_toNat {speed : Option Nat} (range : ∀ v ∈ speed, v ≤ 999) :
    (speedWord speed).toNat = speed.getD 65535 := by
  cases speed with
  | none => rfl
  | some v =>
    have := range v rfl
    simp only [speedWord, BitVec.toNat_ofNat, Option.getD_some]
    omega

/-- A balance word is 65535 while absent, and else the balance (R168). -/
theorem balanceWord_toNat {balance : Option Nat} (range : ∀ b ∈ balance, b ≤ 1023) :
    (balanceWord balance).toNat = balance.getD 65535 := by
  cases balance with
  | none => rfl
  | some b =>
    have := range b rfl
    simp only [balanceWord, BitVec.toNat_ofNat, Option.getD_some]
    omega

/-- The point byte, shared by COUNT REPORT and SETTLE ANSWER (R48, R51). -/
theorem PointContent.byte_toNat (c : PointContent) : c.byte.toNat = pointByteNumber c := by
  simp only [PointContent.byte, toNat_append_add, BitVec.toNat_ofFin, Head.code_toNat, flagCode_toNat,
    Condition.code_toNat, directionCode_toNat, pointByteNumber]
  omega

/-- The class numbers of the frame tables have three bits (R63). -/
theorem Frame.cls_lt (f : Frame) : f.cls < 8 := by
  cases f with
  | countReport _ change | sectionStatus _ change => cases change <;> simp [Frame.cls]
  | _ => simp [Frame.cls]

/-- The arbitration byte (R61). -/
theorem arbitrationByte_toNat (f : Frame) : (arbitrationByte f.cls f.source).toNat = 32 * f.cls + f.source.toNat := by
  rw [arbitrationByte, toNat_append_add, BitVec.toNat_ofNat, Nat.mod_eq_of_lt f.cls_lt]
  rfl

/-- The byte that names a point of a SETTLE REQUEST (R134). -/
theorem pointName_toNat (p : Station × PointIndex) : (pointName p).toNat = 4 * p.1.toNat + p.2.val := by
  simp only [pointName, toNat_append_add, BitVec.toNat_ofFin]
  simp

/-- Settles O30, table by table. -/
theorem frameLayouts : Obligations.FrameLayouts := by
  refine ⟨?_, ?_, ?_, ?_, ?_⟩
  · rintro source change c speed ⟨_, range⟩
    refine ⟨_, _, _, _, _, _, _, _, _, _, rfl, arbitrationByte_toNat _, rfl, c.byte_toNat, rfl, word_highByte_lowByte _,
      word_highByte_lowByte _, ?_⟩
    rw [word_highByte_lowByte, speedWord_toNat range]
    cases speed <;> rfl
  · intro source requester slot tag c _
    refine ⟨_, _, _, _, _, _, _, _, _, rfl, arbitrationByte_toNat _, rfl, ?_, ?_, c.byte_toNat, word_highByte_lowByte _,
      word_highByte_lowByte _⟩
    · simp only [toNat_append_add, BitVec.toNat_ofNat]
      omega
    · simp only [toNat_append_add, BitVec.toNat_ofFin, BitVec.toNat_ofNat]
      omega
  · rintro source slot tag points ⟨_, _, short, _⟩
    refine ⟨_, _, _, points.map pointName, rfl, arbitrationByte_toNat _, ?_, ?_, ?_⟩
    · simp only [Frame.body, List.length_cons, List.length_map, BitVec.toNat_ofNat]
      omega
    · simp only [toNat_append_add, BitVec.toNat_ofFin, BitVec.toNat_ofNat]
      omega
    · simp [pointName_toNat]
  · rintro source change c ⟨_, number, range⟩
    refine ⟨_, _, _, _, _, _, _, _, _, _, rfl, arbitrationByte_toNat _, rfl, ?_, ?_, ?_, causeCode_toNat _, ?_, ?_⟩
    · simp only [toNat_append_add, BitVec.toNat_ofFin, BitVec.toNat_ofNat, SectionState.code_toNat]
      omega
    · rw [word_highByte_lowByte, BitVec.toNat_ofNat]
      omega
    · rw [word_highByte_lowByte, balanceWord_toNat range]
      cases c.balance <;> rfl
    · cases c.restoreSerial <;> rfl
    · simp only [toNat_append_add, BitVec.toNat_ofNat, flagCode_toNat, RestoreOutcome.code_toNat]
      omega
  · intro source target slot direct serial _
    refine ⟨_, _, _, _, rfl, (arbitrationByte_toNat _).trans (Nat.zero_add _), rfl, ?_, ?_⟩
    · simp only [toNat_append_add, BitVec.toNat_ofNat]
      omega
    · simp only [toNat_append_add, BitVec.toNat_ofFin, BitVec.toNat_ofNat, flagCode_toNat]
      omega

end Sys2Proof.Machine

namespace Sys2Proof.Machine

open Sys2Proof.Claims

/-! ### One step on an empty queue (log 1, log 30) -/

theorem mem_whenDue {due : Bool} {c d : Instr} : d ∈ whenDue due c ↔ due = true ∧ d = c := by
  cases due <;> simp [whenDue]

theorem Timer.tick_eq (length : Nat) (x : Timer) : x.tick length = advanced length x := rfl

theorem Timer.due_iff (length : Nat) (x : Timer) : x.due length = true ↔ runsOut length x := by
  simp [Timer.due, runsOut]

theorem State.ageDue_iff (s : State) (m : EntryIndex) :
    s.ageDue m = true ↔ ∃ e, s.mirror.get m = some e ∧ runsOut 800000 e.age := by
  unfold State.ageDue
  cases s.mirror.get m with
  | none => simp
  | some e => simp [Timer.due_iff, Config.ageTime]

theorem State.holdOffDue_iff (s : State) (n : Slot) :
    s.holdOffDue n = true ↔ ∃ sec, s.sections.get n = some sec ∧ runsOut 100000 sec.holdOff := by
  unfold State.holdOffDue
  cases s.sections.get n with
  | none => simp
  | some sec => simp [Timer.due_iff, Config.holdOffTime]

theorem State.deadlineDue_iff (s : State) (n : Slot) :
    s.deadlineDue n = true ↔
      ∃ sec r, s.sections.get n = some sec ∧ sec.round = some r ∧ runsOut 300000 r.deadline := by
  unfold State.deadlineDue
  cases s.sections.get n with
  | none => simp
  | some sec =>
    cases round : sec.round with
    | none => simp [round]
    | some r => simp [round, Timer.due_iff, Config.deadlineTime]

/-- A recessive bit time counts outside a character, while the receiver observes the line and the part sends nothing
(R60). -/
theorem State.countsIdle_iff (s : State) :
    s.countsIdle = true ↔
      s.mode.listens = true ∧ s.rx.inCharacter = false ∧ s.tx.state ≠ .arbitrating ∧ s.tx.state ≠ .sending := by
  simp [State.countsIdle, Transmitter.onLine, and_assoc]

/-- What is queued in this microsecond: the commands of what runs out (log 30). -/
theorem State.mem_dueCommands (s : State) (c : Instr) :
    c ∈ s.dueCommands ↔
      (runsOut 4000 s.loadingTimer ∧ c = .loadingTimerExpiry) ∨
      (runsOut 1200000 s.listeningTimer ∧ c = .listeningTimerExpiry) ∨
      (∃ p, runsOut 100000 (s.tx.reportTimers.get p) ∧ c = .reportTimerExpiry p) ∨
      (∃ n, runsOut 500000 (s.tx.statusTimers.get n) ∧ c = .statusTimerExpiry n) ∨
      (∃ m, s.ageDue m = true ∧ c = .ageTimerExpiry m) ∨
      (∃ n, s.deadlineDue n = true ∧ c = .deadlineExpiry n) ∨
      (∃ n, s.holdOffDue n = true ∧ c = .holdOffExpiry n) ∨
      ((s.countsIdle = true ∧ 12 ≤ s.rx.idleCount + 1) ∧ c = .idleCompletion) := by
  simp only [State.dueCommands, List.mem_append, List.mem_flatMap, mem_whenDue, Timer.due_iff, Bool.and_eq_true,
    decide_eq_true_eq, mem_allPoints, mem_allSlots, mem_allEntries, true_and, or_assoc]
  rfl

/-- The idle count after a recessive bit time (R60). -/
theorem State.idleTick_eq (s : State) :
    s.idleTick = { s.rx with
      idleCount := if s.mode.listens = true ∧ s.rx.inCharacter = false ∧ s.tx.state ≠ .arbitrating ∧
          s.tx.state ≠ .sending ∧ s.rx.idleCount + 1 < 12 then s.rx.idleCount + 1 else s.rx.idleCount } := by
  have counts : (s.countsIdle && decide (s.rx.idleCount + 1 < Config.idleBits)) = true ↔
      s.mode.listens = true ∧ s.rx.inCharacter = false ∧ s.tx.state ≠ .arbitrating ∧ s.tx.state ≠ .sending ∧
        s.rx.idleCount + 1 < 12 := by
    rw [Bool.and_eq_true, State.countsIdle_iff, decide_eq_true_iff]
    simp only [and_assoc]
    rfl
  unfold State.idleTick
  simp only [counts]
  split <;> rfl

/-- What the transmitter does at once (R68, R69). -/
theorem State.atOnce_eq_none_iff (s : State) :
    s.atOnce = none ↔ ¬ (s.mode = .running ∧ (s.tx.live = none ∧ s.tx.next ≠ none ∧ s.tx.state = .quiet ∨
      s.tx.next = none ∧ s.tx.entries ≠ [])) := by
  unfold State.atOnce
  by_cases running : s.mode = .running
  · by_cases move : s.tx.live = none ∧ s.tx.next.isSome ∧ s.tx.state = .quiet
    · simp [running, move, Option.isSome_iff_ne_none.1 move.2.1]
    · have : ¬ (s.tx.live = none ∧ s.tx.next ≠ none ∧ s.tx.state = .quiet) := by
        rwa [← Option.isSome_iff_ne_none]
      by_cases load : s.tx.next = none ∧ s.tx.entries ≠ [] <;> simp [running, move, load, this]
  · simp [running]

theorem State.step_idle {s : State} (empty : s.pending = []) : step s = .next s.idleStep := by
  unfold step
  rw [empty]

/-- Settles O3: what the transmitter does at once is queued, else a microsecond passes. -/
theorem idleStepKeepsState : Obligations.IdleStepKeepsState := by
  intro s empty
  rw [State.step_idle empty]
  refine ⟨fun running live next quiet => ?_, fun running next entries => ?_, fun nothing => ⟨s.tick, ?_, ?_⟩⟩
  · have once : s.atOnce = some .liveLayerMove := by
      simp [State.atOnce, running, live, quiet, Option.isSome_iff_ne_none.2 next]
    simp [State.idleStep, once, empty]
  · have once : s.atOnce = some .nextLayerLoad := by
      simp [State.atOnce, running, next, entries]
    simp [State.idleStep, once, empty]
  · simp [State.idleStep, s.atOnce_eq_none_iff.2 nothing]
  have queued : s.tick.pending = s.dueCommands := by simp [State.tick, empty]
  simp only [queued, State.mem_dueCommands]
  refine ⟨?_, rfl, fun p => Table.get_map _ _ _, fun n => Table.get_map _ _ _, ?_, fun m => Table.get_map _ _ _,
    fun n => Table.get_map _ _ _, ?_⟩
  · simp [State.tick, empty, State.idleTick_eq, Transmitter.tick, Timer.tick_eq, Config.loadingTime,
      Config.listeningTime]
  · exact congrArg Receiver.idleCount s.idleTick_eq
  · simp [State.ageDue_iff, State.deadlineDue_iff, State.holdOffDue_iff, State.countsIdle_iff, and_assoc]

end Sys2Proof.Machine

namespace Sys2Proof.Machine

open Sys2Proof.Claims

/-! ### The ATTN lines as they are driven (R172 to R174) -/

theorem State.attnLive_iff (s : State) (c : AttnClass) : s.attnLive c = true ↔ s.classHolds c := by
  cases c with
  | sectionDisturbed =>
    have disturbed (n : Slot) : s.slotDisturbed n = true ↔ ∃ sec ∈ s.sections.get n, sec.state = .disturbed := by
      unfold State.slotDisturbed
      cases s.sections.get n <;> simp
    simp [State.attnLive, State.classHolds, disturbed, mem_allSlots]
  | pointFaulted => simp [State.attnLive, State.classHolds, mem_allPoints]
  | pointDisturbed => simp [State.attnLive, State.classHolds, mem_allPoints]
  | mirrorNotFresh =>
    have notFresh (m : EntryIndex) : s.entryNotFresh m = true ↔ ∃ e ∈ s.mirror.get m, ∀ v, e.hold ≠ .fresh v := by
      unfold State.entryNotFresh
      cases s.mirror.get m with
      | none => simp
      | some e => cases hold : e.hold <;> simp [hold]
    simp [State.attnLive, State.classHolds, notFresh, mem_allEntries]

/-- The level of a line is what R173 and R174 say. -/
theorem State.attnLevel_active_iff (s : State) (line : Bool) :
    s.attnLevel line = .active ↔ s.mode.listens = false ∨ s.lineCalled line := by
  have every : ∀ c, c ∈ attnClasses := by intro c; cases c <;> decide
  have called : (attnClasses.any fun c => s.attnRouted line c && s.attnLive c) = true ↔ s.lineCalled line := by
    simp [State.attnRouted, State.attnLive_iff, State.lineCalled, every, and_assoc]
  unfold State.attnLevel
  cases s.mode.listens with
  | false => simp
  | true =>
    rw [if_pos rfl, ← called]
    split <;> simp_all

/-- The lines are sound once they are driven. -/
theorem AttnSound.driveAttn (s : State) : AttnSound s.driveAttn :=
  ⟨s.attnLevel_active_iff false, s.attnLevel_active_iff true⟩

/-! ### Entries appended one after another (R47, R171) -/

/-- Appending writes the entries and the numbering, and each entry with its class comes at the end. -/
theorem foldl_append_entries {α : Type} (kind : α → EntryKind) (cls : Nat) (l : List α) (t : Transmitter) :
    l.foldl (fun u a => u.append (kind a) cls) t = { t with
        entries := (l.foldl (fun u a => u.append (kind a) cls) t).entries
        nextPlace := (l.foldl (fun u a => u.append (kind a) cls) t).nextPlace } ∧
      (l.foldl (fun u a => u.append (kind a) cls) t).entries.map (fun e => (e.kind, e.cls)) =
        t.entries.map (fun e => (e.kind, e.cls)) ++ l.map fun a => (kind a, cls) := by
  induction l generalizing t with
  | nil => exact ⟨rfl, by simp⟩
  | cons a l ih =>
    obtain ⟨writes, entries⟩ := ih (t.append (kind a) cls)
    simp only [List.foldl_cons]
    exact ⟨by rw [writes]; rfl, by rw [entries]; simp [Transmitter.append]⟩

/-- The entries of the entry to RUNNING, and what they leave of the transmitter (R47, R171). -/
theorem State.runningEntries_eq (s : State) :
    s.runningEntries = { s.tx with entries := s.runningEntries.entries, nextPlace := s.runningEntries.nextPlace } ∧
      s.runningEntries.entries.map (fun e => (e.kind, e.cls)) =
        s.tx.entries.map (fun e => (e.kind, e.cls)) ++
          (((allPoints.filter s.pointInUse).map fun p => (EntryKind.report p, 3)) ++
            ((allSlots.filter fun n => (s.sections.get n).isSome).map fun n => (EntryKind.status n, 4))) := by
  obtain ⟨reports, reported⟩ := foldl_append_entries EntryKind.report 3 (allPoints.filter s.pointInUse) s.tx
  obtain ⟨statuses, listed⟩ := foldl_append_entries EntryKind.status 4
    (allSlots.filter fun n => (s.sections.get n).isSome)
    ((allPoints.filter s.pointInUse).foldl (fun u p => u.append (.report p) 3) s.tx)
  unfold State.runningEntries
  exact ⟨by rw [statuses, reports], by rw [listed, reported, List.append_assoc]⟩

/-- Settles O48: the two expiries with a configuration loaded. -/
theorem phaseTimersComplete : Obligations.PhaseTimersComplete := by
  refine ⟨fun s cfg loading timer config => ?_, fun s listening timer empty => ?_⟩
  · have entered : exec .loadingTimerExpiry s = .next s.enterListening.driveAttn :=
      congrArg Host.Outcome.next (if_pos ⟨loading, timer, by rw [config]; rfl⟩)
    refine ⟨_, entered, .driveAttn _, ?_⟩
    simp only [State.driveAttn, State.enterListening, State.handedMirror, State.handedSections, config]
    rfl
  · have entered : exec .listeningTimerExpiry s = .next s.enterRunning.driveAttn :=
      congrArg Host.Outcome.next (if_pos ⟨listening, timer⟩)
    obtain ⟨writes, entries⟩ := s.runningEntries_eq
    refine ⟨_, entered, .driveAttn _, rfl, ?_, ?_, fun p used => ?_, fun n used => ?_, fun p => Table.get_const _ _⟩
    · simp only [State.driveAttn_tx, State.enterRunning]
      rw [writes]
    · rw [empty] at entries
      exact entries
    · exact (Table.get_tabulate _ _).trans (if_pos used)
    · exact (Table.get_tabulate _ _).trans (if_pos used)

end Sys2Proof.Machine

namespace Sys2Proof.Machine

open Sys2Proof.Claims

/-! ### What a frame is built from (R48, R51, R68, R134, R168) -/

theorem State.buildFrame_report (s : State) (p : PointIndex) (cls place : Nat) :
    s.buildFrame ⟨.report p, cls, place⟩ = some (.countReport s.stationNumber (decide (cls ≤ 3)) (s.pointContent p)
      ((s.records.get p).last.map LastPassage.speed)) := rfl

theorem State.buildFrame_answer (s : State) (requester : Station) (n : Slot) (p : PointIndex) (tag : Serial)
    (cls place : Nat) : s.buildFrame ⟨.answer requester n p tag, cls, place⟩ =
      some (.settleAnswer s.stationNumber requester n tag (s.pointContent p)) := rfl

theorem State.buildFrame_status (s : State) (n : Slot) (cls place : Nat) :
    s.buildFrame ⟨.status n, cls, place⟩ = (s.sections.get n).map fun sec =>
      .sectionStatus s.stationNumber (decide (cls ≤ 4)) (statusContent n sec) := rfl

theorem State.buildFrame_request (s : State) (n : Slot) (id : Nat) (tag : Serial) (cls place : Nat) :
    s.buildFrame ⟨.request n id tag, cls, place⟩ = (s.sections.get n).map fun sec =>
      .settleRequest s.stationNumber n tag (sec.terms.filterMap s.remotePoint) := rfl

/-- A frame can be built for entries of this kind: a slot that the kind names holds a section. -/
def State.buildable (s : State) : EntryKind → Bool
  | .report _ => true
  | .answer _ _ _ _ => true
  | .status n => (s.sections.get n).isSome
  | .request n _ _ => (s.sections.get n).isSome

theorem State.buildFrame_isSome (s : State) (e : Entry) : (s.buildFrame e).isSome = s.buildable e.kind := by
  obtain ⟨kind, cls, place⟩ := e
  cases kind with
  | report p => rfl
  | answer requester n p tag => rfl
  | status n => exact Option.isSome_map
  | request n id tag => exact Option.isSome_map

/-- What the state says of a point is what its frames carry (R48, R51). -/
theorem State.pointContent_carriesRecord (s : State) (p : PointIndex) : carriesRecord s p (s.pointContent p) :=
  ⟨rfl, rfl, rfl, rfl, rfl, rfl, decide_eq_true_iff, rfl⟩

/-- The points a SETTLE REQUEST names (R134). -/
theorem State.askedPoints_eq (s : State) (sec : Section) : askedPoints s sec = sec.terms.filterMap s.remotePoint := rfl

/-- Every field of a frame is the state's, its source this station, its class the entry's (R48, R51, R134, R168). -/
theorem State.buildFrame_builtFrom {s : State} {own : Station} {e : Entry} {f : Frame} (station : s.station = some own)
    (holds : e.kind.mayHold e.cls) (built : s.buildFrame e = some f) :
    builtFrom s own e.kind f ∧ f.source = own ∧ f.cls = e.cls := by
  have here : s.stationNumber = own := by rw [State.stationNumber, station]; rfl
  obtain ⟨kind, cls, place⟩ := e
  cases kind with
  | report p =>
    obtain rfl := Option.some.inj built
    refine ⟨⟨_, _, by rw [here], s.pointContent_carriesRecord p⟩, here, ?_⟩
    rcases holds with rfl | rfl <;> rfl
  | answer requester n p tag =>
    obtain rfl := Option.some.inj built
    exact ⟨⟨_, by rw [here], s.pointContent_carriesRecord p⟩, here, holds.symm⟩
  | status n =>
    obtain ⟨sec, slot, rfl⟩ := Option.map_eq_some_iff.1 built
    refine ⟨⟨sec, _, slot, by rw [here]; rfl⟩, here, ?_⟩
    rcases holds with rfl | rfl <;> rfl
  | request n id tag =>
    obtain ⟨sec, slot, rfl⟩ := Option.map_eq_some_iff.1 built
    exact ⟨⟨sec, slot, by rw [here, s.askedPoints_eq]⟩, here, holds.symm⟩

/-- No frame is built exactly for a slot not in use. -/
theorem State.buildFrame_none_iff (s : State) (e : Entry) :
    s.buildFrame e = none ↔
      ∃ n, s.sections.get n = none ∧ (e.kind = .status n ∨ ∃ id tag, e.kind = .request n id tag) := by
  rw [← Option.not_isSome_iff_eq_none, State.buildFrame_isSome]
  cases e.kind with
  | report p => simp [State.buildable]
  | answer requester n p tag => simp [State.buildable]
  | status n => simp [State.buildable]
  | request n id tag => simp [State.buildable]

/-! ### The entry that is loaded (R68) -/

theorem earliestLowest_eq_none_iff {l : List Entry} : earliestLowest l = none ↔ l = [] := by
  cases l with
  | nil => simp [earliestLowest]
  | cons e rest =>
    unfold earliestLowest
    split
    · simp
    · split <;> simp

/-- The entry chosen is pending, and none is of a lower class. -/
theorem earliestLowest_spec {l : List Entry} {e : Entry} (h : earliestLowest l = some e) :
    e ∈ l ∧ ∀ g ∈ l, e.cls ≤ g.cls := by
  induction l generalizing e with
  | nil => cases h
  | cons a rest ih =>
    unfold earliestLowest at h
    cases found : earliestLowest rest with
    | none =>
      simp only [found] at h
      obtain rfl := Option.some.inj h
      simp [earliestLowest_eq_none_iff.1 found]
    | some f =>
      obtain ⟨mem, lowest⟩ := ih found
      simp only [found] at h
      split at h
      · obtain rfl := Option.some.inj h
        exact ⟨.tail _ mem, List.forall_mem_cons.2 ⟨by omega, lowest⟩⟩
      · obtain rfl := Option.some.inj h
        exact ⟨.head _, List.forall_mem_cons.2 ⟨le_rfl, fun g hg => by have := lowest g hg; omega⟩⟩

/-- The earliest of the lowest class is chosen. -/
theorem earliestLowest_append {before after : List Entry} {e : Entry} (higher : ∀ g ∈ before, e.cls < g.cls)
    (lowest : ∀ g ∈ after, e.cls ≤ g.cls) : earliestLowest (before ++ e :: after) = some e := by
  induction before with
  | nil =>
    rw [List.nil_append, earliestLowest]
    split
    · rfl
    · rename_i f found
      exact if_neg (Nat.not_lt.2 (lowest f (earliestLowest_spec found).1))
  | cons a before ih =>
    rw [List.cons_append, earliestLowest, ih fun g hg => higher g (.tail _ hg)]
    exact if_pos (higher a (.head _))

/-- Restarting a timer writes the timers alone (R42, R170). -/
theorem Transmitter.restartTimer_eq (t : Transmitter) (kind : EntryKind) :
    t.restartTimer kind = { t with
      reportTimers := (timersAfterLoad t kind).1, statusTimers := (timersAfterLoad t kind).2 } := by
  cases kind <;> rfl

/-- A load: nothing pending, or the earliest entry of the lowest class leaves the list and its frame is held (R68). -/
theorem State.loadNext_cases (s : State) :
    (s.tx.entries = [] ∧ s.loadNext = s) ∨
      ∃ e, earliestLowest s.tx.entries = some e ∧
        s.loadNext = s.withTx { s.tx with
          entries := s.tx.entries.filter fun f => f ≠ e
          next := (s.buildFrame e).map fun f => ⟨e, f⟩
          reportTimers := (timersAfterLoad s.tx e.kind).1
          statusTimers := (timersAfterLoad s.tx e.kind).2 } := by
  unfold State.loadNext
  cases found : earliestLowest s.tx.entries with
  | none => exact .inl ⟨earliestLowest_eq_none_iff.1 found, rfl⟩
  | some e =>
    refine .inr ⟨e, rfl, ?_⟩
    dsimp only
    rw [Transmitter.restartTimer_eq]
    cases e.kind <;> rfl

/-- Settles O22: what is built, and the load of the earliest entry of the lowest class. -/
theorem nextLayerLoadCompletes : Obligations.NextLayerLoadCompletes := by
  refine ⟨fun s own e station holds => ⟨fun f => s.buildFrame_builtFrom station holds, s.buildFrame_none_iff e⟩, ?_⟩
  intro s before after e f running empty entries higher others built
  have loads : exec .nextLayerLoad s = .next s.loadNext := congrArg Host.Outcome.next (if_pos ⟨running, empty⟩)
  have chosen : earliestLowest s.tx.entries = some e := by
    rw [entries]
    exact earliestLowest_append higher fun g hg => (others g hg).1
  have left : s.tx.entries.filter (fun g => g ≠ e) = before ++ after := by
    have first : before.filter (fun g => g ≠ e) = before :=
      List.filter_eq_self.2 fun g hg => by
        have := higher g hg
        simp only [decide_eq_true_eq]
        rintro rfl
        omega
    have last : after.filter (fun g => g ≠ e) = after :=
      List.filter_eq_self.2 fun g hg => by simpa using (others g hg).2
    rw [entries, List.filter_append, List.filter_cons_of_neg (by simp), first, last]
  rw [loads]
  rcases s.loadNext_cases with ⟨none, _⟩ | ⟨e', chosen', loaded⟩
  · simp [none] at entries
  · obtain rfl := Option.some.inj (chosen.symm.trans chosen')
    rw [loaded, built, left]
    rfl

end Sys2Proof.Machine

namespace Sys2Proof.Machine

open Sys2Proof.Claims

/-! ### A frame built anew (R49, R70) -/

/-- The transmitter enters a frame with its START counters alone. -/
theorem State.buildFrame_withTx (s : State) {x : Transmitter} (counters : x.startCounters = s.tx.startCounters)
    (e : Entry) : (s.withTx x).buildFrame e = s.buildFrame e := by
  have content (p : PointIndex) : (s.withTx x).pointContent p = s.pointContent p := by
    unfold State.pointContent
    rw [State.withTx_tx, counters]
    rfl
  obtain ⟨kind, cls, place⟩ := e
  cases kind with
  | report p => rw [State.buildFrame_report, content]; rfl
  | answer requester n p tag => rw [State.buildFrame_answer, content]; rfl
  | status n => rfl
  | request n id tag => rfl

theorem State.refresh_buildFrame (s : State) (concerns : EntryKind → Bool) (newClass : EntryKind → Nat → Nat)
    (e : Entry) : (s.refresh concerns newClass).buildFrame e = s.buildFrame e := s.buildFrame_withTx rfl e

@[simp] theorem State.rebuild_entry (s : State) (lf : LayerFrame) : (s.rebuild lf).entry = lf.entry := by
  unfold State.rebuild
  split <;> rfl

/-- Any frame but a SETTLE REQUEST is built anew where it can be (R70). -/
theorem State.rebuild_eq {s : State} {lf : LayerFrame} {f : Frame} (built : s.buildFrame lf.entry = some f)
    (noRequest : ∀ n id tag, lf.entry.kind ≠ .request n id tag) : s.rebuild lf = { lf with frame := f } := by
  cases kind : lf.entry.kind with
  | request n id tag => exact absurd kind (noRequest n id tag)
  | _ => simp [State.rebuild, kind, built]

theorem EntryKind.carriesPoint_not_request {p : PointIndex} {kind : EntryKind} (carries : kind.carriesPoint p = true)
    (n : Slot) (id : Nat) (tag : Serial) : kind ≠ .request n id tag := by
  rintro rfl
  cases carries

/-- A frame that carries a point can be built, and has START clear once the point's counter is spent (R49). -/
theorem State.buildFrame_carriesPoint (s : State) {e : Entry} {p : PointIndex}
    (carries : e.kind.carriesPoint p = true) :
    ∃ f, s.buildFrame e = some f ∧ (s.tx.startCounters.get p = 0 → f.startPoint = none) := by
  have clear (spent : s.tx.startCounters.get p = 0) : (s.pointContent p).start = false := by
    simp [State.pointContent, spent]
  obtain ⟨kind, cls, place⟩ := e
  cases kind with
  | report q =>
    obtain rfl := beq_iff_eq.1 carries
    exact ⟨_, rfl, fun spent => by simp [Frame.startPoint, clear spent]⟩
  | answer requester n q tag =>
    obtain rfl := beq_iff_eq.1 carries
    exact ⟨_, rfl, fun spent => by simp [Frame.startPoint, clear spent]⟩
  | status n => cases carries
  | request n id tag => cases carries

/-! ### The completion of a frame (R75) -/

/-- The next layer after the last START frame of a point (R49). -/
theorem State.spendStart_next_last {s : State} {f : Frame} {p : PointIndex} (point : f.startPoint = some p)
    (last : s.tx.startCounters.get p = 1) {g : LayerFrame} (held : s.tx.next = some g) :
    ∃ h, (s.spendStart f).tx.next = some { g with frame := h } ∧
      (g.entry.kind.carriesPoint p = true →
        (s.spendStart f).buildFrame g.entry = some h ∧ h.startPoint = none) ∧
      (g.entry.kind.carriesPoint p = false → h = g.frame) := by
  rcases s.spendStart_cases f with ⟨none, _⟩ | ⟨q, point', ⟨_, e⟩ | ⟨more, _⟩⟩
  · exact nomatch none.symm.trans point
  · obtain rfl := Option.some.inj (point'.symm.trans point)
    have next : (s.spendStart f).tx.next =
        some (if g.entry.kind.carriesPoint q then (s.spend q).rebuild g else g) := by
      rw [e]
      exact congrArg (Option.map _) held
    have build : (s.spendStart f).buildFrame g.entry = (s.spend q).buildFrame g.entry := by
      rw [e, State.refresh_buildFrame]
    have spent : (s.spend q).tx.startCounters.get q = 0 := by simp [State.spend, last]
    cases carries : g.entry.kind.carriesPoint q
    · exact ⟨g.frame, by simp [next, carries], fun h => (nomatch h), fun _ => rfl⟩
    · obtain ⟨h, built, clear⟩ := (s.spend q).buildFrame_carriesPoint carries
      refine ⟨h, ?_, fun _ => ⟨by rw [build, built], clear spent⟩, fun h => (nomatch h)⟩
      rw [next, if_pos carries, State.rebuild_eq built (EntryKind.carriesPoint_not_request carries)]
  · exact absurd (Option.some.inj (point'.symm.trans point) ▸ last) more

/-- The next layer else (R49). -/
theorem State.spendStart_next_more {s : State} {f : Frame}
    (more : ∀ p, f.startPoint = some p → s.tx.startCounters.get p ≠ 1) : (s.spendStart f).tx.next = s.tx.next := by
  rcases s.spendStart_cases f with ⟨_, e⟩ | ⟨p, point, ⟨last, _⟩ | ⟨_, e⟩⟩
  · rw [e]
  · exact absurd last (more p point)
  · rw [e]
    rfl

/-- Settles O27: the completion with its START counter, and a last stop bit that reads 0. -/
theorem frameCompletionCompletes : Obligations.FrameCompletionCompletes := by
  intro s lf samples sending live modes
  have completes : exec (.frameCompletion samples) s =
      .next (if bitValue samples = true then s.completeFrame lf else s) := by
    change Host.Outcome.next _ = _
    rw [live]
    simp [sending, modes]
  rw [completes]
  refine ⟨fun zero => by simp [zero], fun one => ⟨s.completeFrame lf, by rw [if_pos one], ?_, ?_,
    State.completeFrame_tx s lf, State.completeFrame_startCounters s lf, fun p point last => ?_, fun more => ?_⟩⟩
  · rw [State.completeFrame_eq, State.spendStart_eq, State.sentFrame]
    dsimp only
    split <;> rfl
  · rw [State.completeFrame_eq, State.spendStart_rx, State.sentFrame]
    dsimp only
    split <;> rfl
  · rw [State.completeFrame_eq]
    have counter : (s.sentFrame lf).tx.startCounters.get p = 1 := by rw [State.sentFrame_tx]; exact last
    have layer : (s.sentFrame lf).tx.next = s.tx.next := by rw [State.sentFrame_tx]
    rw [← layer]
    refine ⟨fun g held carries => ?_, (State.spendStart_layers _ _).1, fun g held => ?_⟩
    · cases before : (s.sentFrame lf).tx.next with
      | none => simp [(State.spendStart_layers (s.sentFrame lf) lf.frame).1 before] at held
      | some g' =>
        obtain ⟨f, after, carried, _⟩ := State.spendStart_next_last point counter before
        obtain rfl := Option.some.inj (after.symm.trans held)
        exact (carried carries).2
    · obtain ⟨f, after, carried, other⟩ := State.spendStart_next_last point counter held
      exact ⟨f, after, fun carries => (carried carries).1, other⟩
  · rw [State.completeFrame_eq, State.spendStart_next_more]
    · rw [State.sentFrame_tx]
    · rw [State.sentFrame_tx]
      exact more

end Sys2Proof.Machine

namespace Sys2Proof.Machine

open Sys2Proof.Claims

/-! ### Which changes of the state a frame notices

`stale` names the kinds of entries whose frames a change may leave out of date. -/

/-- What an evaluation never changes of a section: its number and the sources of its terms. -/
def Section.fixed (sec : Section) : Nat × List TermSource := (sec.number, sec.terms.map Term.source)

/-- The station and point of a mirror entry. -/
def MirrorEntry.name (e : MirrorEntry) : Station × PointIndex := (e.station, e.point)

/-- From `s` to `t` every entry is built into the same frame, but for kinds that are stale; a SETTLE REQUEST never is,
and what could be built still can. -/
structure BuildsAlike (stale : EntryKind → Bool) (s t : State) : Prop where
  builds : ∀ e, stale e.kind = false → t.buildFrame e = s.buildFrame e
  requests : ∀ n id tag, stale (.request n id tag) = false
  buildable : ∀ kind, t.buildable kind = s.buildable kind

/-- The stale kinds of a change of points. -/
def EntryKind.carriesAny (points : List PointIndex) (kind : EntryKind) : Bool := points.any fun p => kind.carriesPoint p

/-- Every kind but a SETTLE REQUEST. -/
def EntryKind.notRequest : EntryKind → Bool
  | .request _ _ _ => false
  | _ => true

theorem EntryKind.notRequest_eq_false_iff {kind : EntryKind} :
    kind.notRequest = false ↔ ∃ n id tag, kind = .request n id tag := by
  cases kind <;> simp [EntryKind.notRequest]

/-- No kind. -/
def noKind : EntryKind → Bool := fun _ => false

/-- A term asks for the same point while its source is the same and the mirror entry keeps its name. -/
theorem State.remotePoint_congr {s t : State}
    (mirror : ∀ m, (t.mirror.get m).map MirrorEntry.name = (s.mirror.get m).map MirrorEntry.name) {u v : Term}
    (source : v.source = u.source) : t.remotePoint v = s.remotePoint u := by
  unfold State.remotePoint
  rw [source]
  cases u.source with
  | localPoint p => rfl
  | mirror m => exact mirror m

/-- The points of a SETTLE REQUEST depend on the sources of the terms and on the names of the mirror entries (R134). -/
theorem State.asked_congr {s t : State}
    (mirror : ∀ m, (t.mirror.get m).map MirrorEntry.name = (s.mirror.get m).map MirrorEntry.name)
    {terms terms' : List Term} (sources : terms'.map Term.source = terms.map Term.source) :
    terms'.filterMap t.remotePoint = terms.filterMap s.remotePoint := by
  induction terms generalizing terms' with
  | nil => rw [List.map_eq_nil_iff.1 sources]; rfl
  | cons u terms ih =>
    obtain ⟨v, rest, rfl, source, sources⟩ := List.map_eq_cons_iff.1 sources
    rw [List.filterMap_cons, List.filterMap_cons, State.remotePoint_congr mirror source, ih sources]

/-- Frames are built alike where station, mirror names, numbers and sources are the same, and points and statuses too
but where stale. -/
theorem BuildsAlike.of_parts {stale : EntryKind → Bool} {s t : State} (station : t.station = s.station)
    (mirror : ∀ m, (t.mirror.get m).map MirrorEntry.name = (s.mirror.get m).map MirrorEntry.name)
    (fixed : ∀ n, (t.sections.get n).map Section.fixed = (s.sections.get n).map Section.fixed)
    (requests : ∀ n id tag, stale (.request n id tag) = false)
    (points : ∀ p, (∀ kind, kind.carriesPoint p = true → stale kind = true) ∨
      (t.pointContent p = s.pointContent p ∧ (t.records.get p).last = (s.records.get p).last))
    (statuses : ∀ n, stale (.status n) = true ∨
      (t.sections.get n).map (statusContent n) = (s.sections.get n).map (statusContent n)) :
    BuildsAlike stale s t where
  requests := requests
  buildable := fun kind => by
    have slot (n : Slot) : (t.sections.get n).isSome = (s.sections.get n).isSome := by
      simpa using congrArg Option.isSome (fixed n)
    cases kind with
    | report p => rfl
    | answer requester n p tag => rfl
    | status n => exact slot n
    | request n id tag => exact slot n
  builds := by
    rintro ⟨kind, cls, place⟩ current
    have here : t.stationNumber = s.stationNumber := by unfold State.stationNumber; rw [station]
    cases kind with
    | report p =>
      rcases points p with stale | ⟨content, last⟩
      · exact nomatch (stale (.report p) (beq_self_eq_true p)).symm.trans current
      · rw [State.buildFrame_report, State.buildFrame_report, here, content, last]
    | answer requester n p tag =>
      rcases points p with stale | ⟨content, last⟩
      · exact nomatch (stale (.answer requester n p tag) (beq_self_eq_true p)).symm.trans current
      · rw [State.buildFrame_answer, State.buildFrame_answer, here, content]
    | status n =>
      rcases statuses n with stale | content
      · exact nomatch stale.symm.trans current
      · have frames := congrArg (Option.map (Frame.sectionStatus s.stationNumber (decide (cls ≤ 4)))) content
        rw [Option.map_map, Option.map_map] at frames
        rw [State.buildFrame_status, State.buildFrame_status, here]
        exact frames
    | request n id tag =>
      rw [State.buildFrame_request, State.buildFrame_request, here]
      have slot := fixed n
      cases before : s.sections.get n with
      | none =>
        rw [before] at slot
        rw [Option.map_eq_none_iff.1 slot]
        rfl
      | some sec =>
        rw [before] at slot
        obtain ⟨sec', after, same⟩ := Option.map_eq_some_iff.1 slot
        have asked := State.asked_congr mirror (congrArg Prod.snd same)
        rw [after, Option.map_some, Option.map_some, asked]

/-- Nothing that a frame is built from has changed. -/
theorem BuildsAlike.of_same {s t : State} (station : t.station = s.station)
    (mirror : ∀ m, (t.mirror.get m).map MirrorEntry.name = (s.mirror.get m).map MirrorEntry.name)
    (sections : t.sections = s.sections) (records : t.records = s.records)
    (counters : t.tx.startCounters = s.tx.startCounters) : BuildsAlike noKind s t := by
  refine .of_parts station mirror (fun n => by rw [sections]) (fun _ _ _ => rfl) (fun p => .inr ⟨?_, by rw [records]⟩)
    (fun n => .inr (by rw [sections]))
  unfold State.pointContent
  rw [records, counters]

/-! ### Frames that follow the state -/

/-- A frame can be built, and is the one that its entry would be built into now unless its kind is stale. -/
def State.frameFits (s : State) (stale : EntryKind → Bool) (lf : LayerFrame) : Prop :=
  (s.buildFrame lf.entry).isSome = true ∧ (stale lf.entry.kind = false → s.buildFrame lf.entry = some lf.frame)

/-- A frame that fits still does, where what is no longer stale was built alike. -/
theorem State.frameFits.alike {stale stale' changed : EntryKind → Bool} {s t : State} {lf : LayerFrame}
    (fits : s.frameFits stale lf) (alike : BuildsAlike changed s t)
    (le : ∀ kind, stale' kind = false → stale kind = false ∧ changed kind = false) : t.frameFits stale' lf := by
  obtain ⟨built, current⟩ := fits
  refine ⟨?_, fun now => ?_⟩
  · rwa [State.buildFrame_isSome, alike.buildable, ← State.buildFrame_isSome]
  · obtain ⟨old, same⟩ := le _ now
    rw [alike.builds _ same, current old]

/-- A frame that has begun notices nothing but what its SETTLE REQUEST was built from. -/
theorem State.frameFits.started {changed : EntryKind → Bool} {s t : State} {lf : LayerFrame}
    (fits : s.frameFits EntryKind.notRequest lf) (alike : BuildsAlike changed s t) :
    t.frameFits EntryKind.notRequest lf := by
  refine fits.alike alike fun kind request => ⟨request, ?_⟩
  obtain ⟨n, id, tag, rfl⟩ := EntryKind.notRequest_eq_false_iff.1 request
  exact alike.requests n id tag

/-- A rebuilt frame fits, where a SETTLE REQUEST did (R70). -/
theorem State.frameFits.rebuild {s : State} {lf : LayerFrame} (fits : s.frameFits EntryKind.notRequest lf)
    (stale : EntryKind → Bool) : s.frameFits stale (s.rebuild lf) := by
  obtain ⟨built, current⟩ := fits
  rw [State.frameFits, State.rebuild_entry]
  refine ⟨built, fun _ => ?_⟩
  by_cases request : ∃ n id tag, lf.entry.kind = .request n id tag
  · obtain ⟨n, id, tag, kind⟩ := request
    have same : s.rebuild lf = lf := by simp [State.rebuild, kind]
    rw [same, current (EntryKind.notRequest_eq_false_iff.2 ⟨n, id, tag, kind⟩)]
  · obtain ⟨f, built⟩ := Option.isSome_iff_exists.1 built
    rw [State.rebuild_eq built fun n id tag kind => request ⟨n, id, tag, kind⟩, built]

/-- The frames in the layers, between two commands or within one: what is not stale is as it would be built now. Outside
RUNNING there are none (R69, R78); a frame being finished in HALTED is met apart. -/
structure FramesFollow (stale : EntryKind → Bool) (s : State) : Prop where
  next : ∀ lf ∈ s.tx.next, s.frameFits stale lf
  waiting : s.tx.state = .waiting → ∀ lf ∈ s.tx.live, s.frameFits stale lf
  started : ∀ lf ∈ s.tx.live, s.frameFits EntryKind.notRequest lf
  silent : s.mode ≠ .running → s.tx.next = none ∧ s.tx.live = none

namespace FramesFollow

theorem of_empty {s : State} (next : s.tx.next = none) (live : s.tx.live = none) (stale : EntryKind → Bool) :
    FramesFollow stale s where
  next := fun _ h => nomatch next.symm.trans h
  waiting := fun _ _ h => nomatch live.symm.trans h
  started := fun _ h => nomatch live.symm.trans h
  silent := fun _ => ⟨next, live⟩

theorem of_current {s : State} (halted : s.mode ≠ .halted) (sound : TxSound s) (current : FramesCurrent s) :
    FramesFollow noKind s where
  next := fun lf h => ⟨by rw [current.next lf h]; rfl, fun _ => current.next lf h⟩
  waiting := fun w lf h => ⟨current.buildable lf h, fun _ => current.waiting w lf h⟩
  started := fun lf h => ⟨current.buildable lf h, fun request => by
    obtain ⟨n, id, tag, kind⟩ := EntryKind.notRequest_eq_false_iff.1 request
    exact current.request lf h n (by rw [kind]; exact beq_self_eq_true n)⟩
  silent := fun running => by
    obtain ⟨next, quiet | ⟨mode, _⟩⟩ := sound.silent running
    · refine ⟨next, Option.not_isSome_iff_eq_none.1 fun live => ?_⟩
      rcases sound.live.1 live with h | h | h <;> exact nomatch quiet.symm.trans h
    · exact absurd mode halted

theorem current {s : State} (follow : FramesFollow noKind s) : FramesCurrent s where
  next := fun lf h => (follow.next lf h).2 rfl
  waiting := fun w lf h => (follow.waiting w lf h).2 rfl
  request := fun lf h n request => (follow.started lf h).2 (by
    cases kind : lf.entry.kind with
    | request m id tag => rfl
    | report p | status m | answer requester m p tag => rw [kind] at request; cases request)
  buildable := fun lf h => (follow.started lf h).1

/-- A change of the state that leaves the layers alone. -/
theorem of_alike {stale stale' changed : EntryKind → Bool} {s t : State} (follow : FramesFollow stale s)
    (alike : BuildsAlike changed s t) (mode : t.mode = s.mode)
    (layers : t.tx.next = s.tx.next ∧ t.tx.live = s.tx.live ∧ t.tx.state = s.tx.state)
    (le : ∀ kind, stale' kind = false → stale kind = false ∧ changed kind = false) : FramesFollow stale' t := by
  obtain ⟨next, live, state⟩ := layers
  constructor
  case next => rw [next]; exact fun lf h => (follow.next lf h).alike alike le
  case waiting => rw [live, state]; exact fun w lf h => (follow.waiting w lf h).alike alike le
  case started => rw [live]; exact fun lf h => (follow.started lf h).started alike
  case silent => rw [mode, next, live]; exact follow.silent

/-- Nothing that a frame is built from has changed, and the layers are as they were. -/
theorem of_same {stale : EntryKind → Bool} {s t : State} (follow : FramesFollow stale s)
    (alike : BuildsAlike noKind s t) (mode : t.mode = s.mode)
    (layers : t.tx.next = s.tx.next ∧ t.tx.live = s.tx.live ∧ t.tx.state = s.tx.state) : FramesFollow stale t :=
  follow.of_alike alike mode layers fun _ now => ⟨now, rfl⟩

/-- A transmitter with the same layers and START counters. -/
theorem withTx {stale : EntryKind → Bool} {s : State} (follow : FramesFollow stale s) {x : Transmitter}
    (layers : x.next = s.tx.next ∧ x.live = s.tx.live ∧ x.state = s.tx.state)
    (counters : x.startCounters = s.tx.startCounters) : FramesFollow stale (s.withTx x) :=
  follow.of_same (.of_same rfl (fun _ => rfl) rfl rfl counters) rfl layers

theorem withRx {stale : EntryKind → Bool} {s : State} (follow : FramesFollow stale s) (x : Receiver) :
    FramesFollow stale (s.withRx x) :=
  follow.of_same (.of_same rfl (fun _ => rfl) rfl rfl rfl) rfl ⟨rfl, rfl, rfl⟩

theorem driveAttn {stale : EntryKind → Bool} {s : State} (follow : FramesFollow stale s) :
    FramesFollow stale s.driveAttn :=
  follow.of_same (.of_same rfl (fun _ => rfl) rfl rfl rfl) rfl ⟨rfl, rfl, rfl⟩

theorem setLine {stale : EntryKind → Bool} {s : State} (follow : FramesFollow stale s) (n : Slot) (l : ClearLine) :
    FramesFollow stale (s.setLine n l) :=
  follow.of_same (.of_same rfl (fun _ => rfl) rfl rfl rfl) rfl ⟨rfl, rfl, rfl⟩

/-- An entry that keeps its name. -/
theorem setMirror {stale : EntryKind → Bool} {s : State} (follow : FramesFollow stale s) {m : EntryIndex}
    {e e' : MirrorEntry} (held : s.mirror.get m = some e) (name : e'.name = e.name) :
    FramesFollow stale (s.setMirror m e') := by
  refine follow.of_same (.of_same rfl (fun k => ?_) rfl rfl rfl) rfl ⟨rfl, rfl, rfl⟩
  rw [State.setMirror_mirror]
  by_cases here : k = m
  · rw [here, Table.get_set_same, held, Option.map_some, Option.map_some, name]
  · rw [Table.get_set_other _ _ here]

/-- A refresh leaves no frame that it concerns stale (R70). -/
theorem refresh {stale stale' concerns : EntryKind → Bool} {newClass : EntryKind → Nat → Nat} {s : State}
    (follow : FramesFollow stale s) (requests : ∀ n id tag, concerns (.request n id tag) = false)
    (le : ∀ kind, stale' kind = false → concerns kind = false → stale kind = false) :
    FramesFollow stale' (s.refresh concerns newClass) := by
  have alike : BuildsAlike noKind s (s.refresh concerns newClass) := .of_same rfl (fun _ => rfl) rfl rfl rfl
  have refreshed {old new : EntryKind → Bool} {layer : Option LayerFrame} (fits : ∀ lf ∈ layer, s.frameFits old lf)
      (le : ∀ kind, new kind = false → concerns kind = false → old kind = false) :
      ∀ lf ∈ s.refreshLayer concerns newClass layer, (s.refresh concerns newClass).frameFits new lf := by
    intro lf' held'
    obtain ⟨lf, held, rfl⟩ := Option.map_eq_some_iff.1 held'
    refine State.frameFits.alike (s := s) ?_ alike fun _ now => ⟨now, rfl⟩
    cases concerned : concerns lf.entry.kind
    · exact ⟨(fits lf held).1, fun now => (fits lf held).2 (le _ now concerned)⟩
    · refine State.frameFits.rebuild ⟨?_, fun request => ?_⟩ _
      · rw [State.buildFrame_isSome, ← State.buildFrame_isSome s lf.entry]
        exact (fits lf held).1
      · obtain ⟨n, id, tag, kind⟩ := EntryKind.notRequest_eq_false_iff.1 request
        have unconcerned := requests n id tag
        rw [← kind, concerned] at unconcerned
        cases unconcerned
  constructor
  case next => exact refreshed follow.next le
  case waiting =>
    intro waiting
    have live : (s.refresh concerns newClass).tx.live = s.refreshLayer concerns newClass s.tx.live := if_pos waiting
    rw [live]
    exact refreshed (follow.waiting waiting) le
  case started =>
    by_cases waiting : s.tx.state = .waiting
    · have live : (s.refresh concerns newClass).tx.live = s.refreshLayer concerns newClass s.tx.live := if_pos waiting
      rw [live]
      exact refreshed follow.started fun _ now _ => now
    · have live : (s.refresh concerns newClass).tx.live = s.tx.live := if_neg waiting
      rw [live]
      exact fun lf held => (follow.started lf held).started alike
  case silent =>
    intro mode
    obtain ⟨next, live⟩ := follow.silent mode
    exact ⟨congrArg (Option.map _) next, by simp [State.refresh, State.refreshLayer, live]⟩

end FramesFollow

end Sys2Proof.Machine

namespace Sys2Proof.Machine

open Sys2Proof.Claims

/-! ### What every evaluation keeps: the number and the sources of the terms -/

@[simp] theorem Term.follow_source (src : TermSource) (v : SourceView) (t : Term) :
    (t.follow src v).source = t.source := by
  unfold Term.follow
  split <;> rfl

@[simp] theorem State.rebaseTerm_source (s : State) (t : Term) : (s.rebaseTerm t).source = t.source := by
  unfold State.rebaseTerm
  split <;> rfl

@[simp] theorem Section.disturb_fixed (cause : DisturbanceCause) (sec : Section) :
    (sec.disturb cause).fixed = sec.fixed := by
  rcases sec.disturb_cases cause with ⟨_, e⟩ | ⟨_, e⟩ <;> rw [e]
  rfl

@[simp] theorem Section.enterSettling_fixed (sec : Section) : sec.enterSettling.fixed = sec.fixed := by
  rcases sec.enterSettling_cases with ⟨_, e⟩ | ⟨_, e⟩ <;> rw [e] <;> rfl

@[simp] theorem State.settleTest_fixed (s : State) (sec : Section) : (s.settleTest sec).fixed = sec.fixed := by
  rcases s.settleTest_cases sec with ⟨_, e⟩ | ⟨_, e⟩ <;> rw [e]
  exact sec.enterSettling_fixed

@[simp] theorem State.evaluateSection_fixed (s : State) (notice : Option DisturbanceCause) (src : TermSource)
    (sec : Section) : (s.evaluateSection notice src sec).fixed = sec.fixed := by
  cases h : s.source src with
  | none => rw [State.evaluateSection_absent h]
  | some v =>
    have number : (s.evaluateSection notice src sec).number = sec.number :=
      congrArg Prod.fst (s.evaluateSection_identity notice src sec)
    refine Prod.ext number ?_
    change (s.evaluateSection notice src sec).terms.map Term.source = sec.terms.map Term.source
    rw [State.evaluateSection_terms h, List.map_map]
    exact List.map_congr_left fun t _ => t.follow_source src v

@[simp] theorem State.expireHoldOff_fixed (s : State) (sec : Section) : (s.expireHoldOff sec).fixed = sec.fixed :=
  s.settleTest_fixed _

@[simp] theorem State.takeAnswer_fixed (s : State) (tag : Serial) (station : Station) (p : PointIndex) (mark : Bool)
    (sec : Section) : (s.takeAnswer tag station p mark sec).fixed = sec.fixed := by
  rcases s.takeAnswer_cases tag station p mark sec with e | ⟨r, _, _, ⟨_, e⟩ | ⟨_, e⟩⟩ <;> rw [e] <;> rfl

@[simp] theorem Section.expireDeadline_fixed (sec : Section) : sec.expireDeadline.fixed = sec.fixed := by
  rcases sec.expireDeadline_cases with ⟨_, e⟩ | ⟨_, e⟩ <;> rw [e]
  rfl

@[simp] theorem State.restoredSection_fixed (s : State) (sec : Section) :
    (s.restoredSection sec).fixed = sec.fixed := by
  refine Prod.ext rfl ?_
  change (sec.terms.map s.rebaseTerm).map Term.source = sec.terms.map Term.source
  rw [List.map_map]
  exact List.map_congr_left fun t _ => s.rebaseTerm_source t

@[simp] theorem State.acceptRestore_fixed (s : State) (direct : Bool) (sec : Section) :
    (s.acceptRestore direct sec).fixed = sec.fixed := by
  unfold State.acceptRestore
  cases direct <;> simp

@[simp] theorem State.takeRestore_fixed (s : State) (direct : Bool) (serial : Serial) (sec : Section) :
    (s.takeRestore direct serial sec).fixed = sec.fixed := by
  rcases s.takeRestore_cases direct serial sec with ⟨_, e⟩ | ⟨_, _, e⟩ | ⟨_, _, e⟩ <;> rw [e]
  · rfl
  · exact s.acceptRestore_fixed direct sec

/-! ### What falls due reaches the pending list alone (R44 to R46, R66, R133, R134) -/

theorem Transmitter.hold_eq (t : Transmitter) (which : EntryKind → Bool) (kind : EntryKind)
    (changeClass periodicClass : Nat) (cause : DueCause) :
    t.hold which kind changeClass periodicClass cause = { t with
      entries := (t.hold which kind changeClass periodicClass cause).entries
      nextPlace := (t.hold which kind changeClass periodicClass cause).nextPlace } := by
  unfold Transmitter.hold
  split
  · cases cause <;> rfl
  · split
    · rfl
    · cases cause <;> rfl

theorem State.followRound_tx (s : State) (n : Slot) (before after : Section) :
    (s.followRound n before after).tx = { s.tx with
      entries := (s.followRound n before after).tx.entries
      nextPlace := (s.followRound n before after).tx.nextPlace } := by
  unfold State.followRound
  dsimp only [State.withTx_tx]
  split <;> split <;> rfl

namespace FramesFollow

theorem hold {stale : EntryKind → Bool} {s : State} (follow : FramesFollow stale s) (which : EntryKind → Bool)
    (kind : EntryKind) (changeClass periodicClass : Nat) (cause : DueCause) :
    FramesFollow stale (s.withTx (s.tx.hold which kind changeClass periodicClass cause)) := by
  rw [Transmitter.hold_eq]
  exact follow.withTx ⟨rfl, rfl, rfl⟩ rfl

/-- A point change leaves no frame of the point stale (R45, R52, R70). -/
theorem pointChangeDue {stale stale' : EntryKind → Bool} {s : State} (follow : FramesFollow stale s) (p : PointIndex)
    (le : ∀ kind, stale' kind = false → kind.carriesPoint p = false → stale kind = false) :
    FramesFollow stale' (s.pointChangeDue p) := by
  unfold State.pointChangeDue
  split
  · exact (follow.hold _ _ _ _ _).refresh (fun _ _ _ => rfl) le
  · rename_i mode
    exact .of_empty (follow.silent mode).1 (follow.silent mode).2 _

/-- A section change leaves no status of the slot stale (R66, R70). -/
theorem sectionChangeDue {stale stale' : EntryKind → Bool} {s : State} (follow : FramesFollow stale s) (n : Slot)
    (le : ∀ kind, stale' kind = false → kind.isStatus n = false → stale kind = false) :
    FramesFollow stale' (s.sectionChangeDue n) := by
  unfold State.sectionChangeDue
  split
  · exact (follow.hold _ _ _ _ _).refresh (fun _ _ _ => rfl) le
  · rename_i mode
    exact .of_empty (follow.silent mode).1 (follow.silent mode).2 _

theorem handOn {stale : EntryKind → Bool} {s : State} (n : Slot) (follow : FramesFollow stale s) (state : SectionState)
    (le : ∀ kind, kind.isStatus n = false → stale kind = false) : FramesFollow noKind (s.handOn n state) :=
  (follow.sectionChangeDue n fun kind _ => le kind).setLine n _

end FramesFollow

/-- A section that changes in its slot alone: its status is stale exactly where the change is handed on (R128). -/
theorem BuildsAlike.setSection {s : State} {n : Slot} {before after : Section} (slot : s.sections.get n = some before)
    (fixed : after.fixed = before.fixed) {stale : EntryKind → Bool}
    (requests : ∀ m id tag, stale (.request m id tag) = false)
    (handed : sectionChanged before after = true → stale (.status n) = true) :
    BuildsAlike stale s (s.setSection n after) := by
  refine .of_parts rfl (fun _ => rfl) (fun m => ?_) requests (fun p => .inr ⟨rfl, rfl⟩) (fun m => ?_)
  · rw [State.setSection_sections]
    by_cases here : m = n
    · rw [here, Table.get_set_same, slot, Option.map_some, Option.map_some, fixed]
    · rw [Table.get_set_other _ _ here]
  · rw [State.setSection_sections]
    by_cases here : m = n
    · subst here
      cases changed : sectionChanged before after
      · right
        simp only [sectionChanged, Bool.or_eq_false_iff, decide_eq_false_iff_not, not_not] at changed
        obtain ⟨⟨⟨⟨state, balance⟩, cause⟩, serial⟩, outcome⟩ := changed
        have number : after.number = before.number := congrArg Prod.fst fixed
        rw [Table.get_set_same, slot, Option.map_some, Option.map_some, statusContent, statusContent, state, balance,
          cause, serial, outcome, number]
      · exact .inl (handed changed)
    · rw [Table.get_set_other _ _ here]
      exact .inr rfl

namespace FramesFollow

/-- An evaluation that keeps number and sources leaves no frame stale (R54, R66, R70, R134). -/
theorem applySection {s : State} (follow : FramesFollow noKind s) (n : Slot) {f : Section → Section}
    (fixed : ∀ sec, (f sec).fixed = sec.fixed) : FramesFollow noKind (s.applySection n f) := by
  unfold State.applySection
  cases slot : s.sections.get n with
  | none => exact follow
  | some sec =>
    have followed {stale : EntryKind → Bool} (alike : BuildsAlike stale s (s.setSection n (f sec))) :
        FramesFollow stale ((s.setSection n (f sec)).followRound n sec (f sec)) := by
      rw [State.followRound_eq, State.followRound_tx]
      exact (follow.of_alike alike rfl ⟨rfl, rfl, rfl⟩ fun _ now => ⟨rfl, now⟩).withTx ⟨rfl, rfl, rfl⟩ rfl
    dsimp only
    split
    · exact handOn n (followed (stale := EntryKind.isStatus n)
        (.setSection slot (fixed sec) (fun _ _ _ => rfl) fun _ => beq_self_eq_true n)) _ fun _ other => other
    · rename_i unchanged
      exact followed (.setSection slot (fixed sec) (fun _ _ _ => rfl) fun changed => absurd changed unchanged)

theorem reachSection {s : State} (follow : FramesFollow noKind s) (n : Slot) (notice : Option DisturbanceCause)
    (src : TermSource) : FramesFollow noKind (s.reachSection n notice src) :=
  follow.applySection n fun sec => by split <;> simp

theorem notifySections {s : State} (follow : FramesFollow noKind s) (notice : Option DisturbanceCause)
    (m : EntryIndex) : FramesFollow noKind (s.notifySections notice m) := by
  unfold State.notifySections
  exact List.foldlRecOn (motive := fun t : State => FramesFollow noKind t) allSlots _ follow
    fun t kept n _ => kept.reachSection n notice (.mirror m)

theorem present {s : State} (follow : FramesFollow noKind s) (source : Station) (c : PointContent) :
    FramesFollow noKind (s.present source c) := by
  unfold State.present
  split
  · exact follow
  · rename_i m _
    rcases s.presentAt_cases m c with ⟨_, e⟩ | ⟨held, slot, ⟨_, e⟩ | ⟨v, _, e⟩⟩ <;> rw [e]
    · exact follow
    · exact follow.setMirror (e' := held.accept c) slot rfl
    · exact (follow.setMirror (e' := held.accept c) slot rfl).notifySections _ _

/-- The frame that is loaded is built now (R68). -/
theorem loadNext {s : State} (follow : FramesFollow noKind s) (running : s.mode = .running) :
    FramesFollow noKind s.loadNext := by
  rcases s.loadNext_cases with ⟨_, e⟩ | ⟨e, _, loaded⟩
  · rw [e]
    exact follow
  · rw [loaded]
    have alike : BuildsAlike noKind s (s.withTx { s.tx with
          entries := s.tx.entries.filter fun f => f ≠ e
          next := (s.buildFrame e).map fun f => ⟨e, f⟩
          reportTimers := (timersAfterLoad s.tx e.kind).1
          statusTimers := (timersAfterLoad s.tx e.kind).2 }) := .of_same rfl (fun _ => rfl) rfl rfl rfl
    constructor
    case next =>
      intro lf held
      obtain ⟨f, built, rfl⟩ := Option.map_eq_some_iff.1 held
      exact State.frameFits.alike (stale := noKind) ⟨by rw [built]; rfl, fun _ => built⟩ alike fun _ _ => ⟨rfl, rfl⟩
    case waiting => exact fun w lf held => (follow.waiting w lf held).alike alike fun _ _ => ⟨rfl, rfl⟩
    case started => exact fun lf held => (follow.started lf held).started alike
    case silent => exact fun silent => absurd running silent

theorem preempt {s : State} (follow : FramesFollow noKind s) : FramesFollow noKind s.preempt := by
  unfold State.preempt
  split
  · exact follow
  · rename_i lf held
    split
    · rename_i due
      have emptied : FramesFollow noKind (s.withTx { s.tx with next := none }) := by
        have alike : BuildsAlike noKind s (s.withTx { s.tx with next := none }) :=
          .of_same rfl (fun _ => rfl) rfl rfl rfl
        exact ⟨fun _ h => (nomatch h), fun w lf held => (follow.waiting w lf held).alike alike fun _ _ => ⟨rfl, rfl⟩,
          fun lf held => (follow.started lf held).started alike, fun silent => absurd due.1 silent⟩
      refine FramesFollow.loadNext ?_ due.1
      split
      · rw [Transmitter.takeBack_keeps]
        exact emptied.withTx ⟨rfl, rfl, rfl⟩ rfl
      · exact emptied
    · exact follow

theorem preempt_driveAttn {s : State} (follow : FramesFollow noKind s) : FramesFollow noKind s.preempt.driveAttn :=
  follow.preempt.driveAttn

end FramesFollow

end Sys2Proof.Machine

namespace Sys2Proof.Machine

open Sys2Proof.Claims

/-! ### Frames at a sweep completion -/

/-- Where the last passage changes, a count does (R26, R31). -/
theorem PointRecord.evaluate_last_kept (cfg : PointConfig) (d : Nat) (h : HandOver) (r : PointRecord) :
    recordChanged r (r.evaluate cfg d h) ∨ (r.evaluate cfg d h).last = r.last := by
  rcases r.takeLevels_counts cfg d h with ⟨quiet, way, trail⟩ | ⟨_, _, last⟩
  · left
    rw [PointRecord.evaluate_of_passage cfg d quiet trail]
    cases way
    · exact .inl (by simp [PointRecord.countPassage])
    · exact .inr (.inl (by simp [PointRecord.countPassage]))
  · exact .inr last

/-- The swept records change no frame but those of the changed points (R36, R45, R52). -/
theorem BuildsAlike.swept (s : State) (r : Results) :
    BuildsAlike (EntryKind.carriesAny (changedPoints s (s.sweepFront r).sweepRecords)) s
      (s.sweepFront r).sweepRecords := by
  refine .of_parts rfl (fun _ => rfl) (fun _ => rfl) (fun _ _ _ => List.any_eq_false.2 fun _ _ => nofun) (fun p => ?_)
    (fun _ => .inr rfl)
  by_cases changed : p ∈ changedPoints s (s.sweepFront r).sweepRecords
  · exact .inl fun kind carries => List.any_eq_true.2 ⟨p, changed, carries⟩
  · right
    have same : ¬ recordChanged (s.records.get p) ((s.sweepFront r).sweepRecords.records.get p) := fun moved =>
      changed (List.mem_filter.2 ⟨mem_allPoints p, (pointChanged_iff _ _).2 moved⟩)
    have last : ((s.sweepFront r).sweepRecords.records.get p).last = (s.records.get p).last := by
      rw [State.sweepRecords_get] at same ⊢
      unfold State.evaluatedRecord at same ⊢
      split
      · rfl
      · rename_i cfg config
        rw [config] at same
        exact (PointRecord.evaluate_last_kept _ _ _ _).resolve_left same
    simp only [recordChanged, not_or, not_not] at same
    obtain ⟨nAB, nBA, head, condition, serial⟩ := same
    refine ⟨?_, last⟩
    unfold State.pointContent
    dsimp only
    rw [← nAB, ← nBA, ← head, ← condition, ← serial, last]
    rfl

namespace FramesFollow

/-- The reports of the changed points leave none of their frames stale. -/
theorem reports {points : List PointIndex} {s : State} (follow : FramesFollow (EntryKind.carriesAny points) s) :
    FramesFollow noKind (points.foldl State.pointChangeDue s) := by
  induction points generalizing s with
  | nil => exact follow
  | cons p rest ih =>
    refine ih (follow.pointChangeDue p fun kind others here => ?_)
    exact Bool.or_eq_false_iff.2 ⟨here, others⟩

theorem sweepSlot {s : State} (follow : FramesFollow noKind s) (changed : List PointIndex) (draw : Nat) (n : Slot) :
    FramesFollow noKind (State.sweepSlot changed draw s n) :=
  State.sweepSlot_preserves (P := FramesFollow noKind) (fun _ p kept => kept.reachSection n none (.localPoint p))
    (fun _ l kept => kept.setLine n l) changed draw follow

theorem completeSweep {s : State} (follow : FramesFollow noKind s) (r : Results) :
    FramesFollow noKind (s.completeSweep r) := by
  cases listens : s.mode.listens
  · rw [State.completeSweep_silent listens]
    exact follow
  · rw [State.completeSweep_stages listens]
    have reported : FramesFollow noKind (s.reportedSweep r) :=
      (follow.of_alike (.swept s r) rfl ⟨rfl, rfl, rfl⟩ fun _ now => ⟨rfl, now⟩).reports
    have slots := List.foldlRecOn (motive := fun t : State => FramesFollow noKind t) allSlots
      (State.sweepSlot (changedPoints s (s.sweepFront r).sweepRecords) s.draws) reported
      fun t kept n _ => kept.sweepSlot _ _ n
    generalize allSlots.foldl (State.sweepSlot (changedPoints s (s.sweepFront r).sweepRecords) s.draws)
      (s.reportedSweep r) = t at slots ⊢
    exact (slots.of_same (t := { t with draws := s.draws + 1 }) (.of_same rfl (fun _ => rfl) rfl rfl rfl) rfl
      ⟨rfl, rfl, rfl⟩).preempt_driveAttn

/-! ### Frames at the transmitter's own commands -/

/-- A frame that is started notices its SETTLE REQUEST alone (R70, R73). -/
theorem begun {s : State} (follow : FramesFollow noKind s) {x : Transmitter}
    (layers : x.next = s.tx.next ∧ x.live = s.tx.live) (state : x.state ≠ .waiting)
    (counters : x.startCounters = s.tx.startCounters) : FramesFollow noKind (s.withTx x) := by
  have alike : BuildsAlike noKind s (s.withTx x) := .of_same rfl (fun _ => rfl) rfl rfl counters
  obtain ⟨next, live⟩ := layers
  constructor
  case next => rw [State.withTx_tx, next]; exact fun lf held => (follow.next lf held).alike alike fun _ _ => ⟨rfl, rfl⟩
  case waiting => exact fun waiting => absurd waiting state
  case started => rw [State.withTx_tx, live]; exact fun lf held => (follow.started lf held).started alike
  case silent => rw [State.withTx_tx, next, live]; exact follow.silent

/-- The next frame moves to the live layer as it stands (R69). -/
theorem move {s : State} (follow : FramesFollow noKind s) (running : s.mode = .running) :
    FramesFollow noKind (s.withTx s.tx.move) := by
  have alike : BuildsAlike noKind s (s.withTx s.tx.move) := .of_same rfl (fun _ => rfl) rfl rfl rfl
  constructor
  case next => exact fun _ held => nomatch held
  case waiting => exact fun _ lf held => (follow.next lf held).alike alike fun _ _ => ⟨rfl, rfl⟩
  case started =>
    exact fun lf held => (follow.next lf held).alike (stale' := EntryKind.notRequest) alike fun _ _ => ⟨rfl, rfl⟩
  case silent => exact fun silent => absurd running silent

/-- The live frame returns to WAITING built anew (R70, R74, R76). -/
theorem returnToWaiting {s : State} (follow : FramesFollow noKind s) (running : s.mode = .running) :
    FramesFollow noKind s.returnToWaiting := by
  have alike : BuildsAlike noKind s s.returnToWaiting := .of_same rfl (fun _ => rfl) rfl rfl rfl
  have rebuilt (stale : EntryKind → Bool) : ∀ lf ∈ s.tx.live.map s.rebuild, s.returnToWaiting.frameFits stale lf := by
    intro lf' held'
    obtain ⟨lf, held, rfl⟩ := Option.map_eq_some_iff.1 held'
    exact ((follow.started lf held).rebuild stale).alike alike fun _ now => ⟨now, rfl⟩
  constructor
  case next => exact fun lf held => (follow.next lf held).alike alike fun _ _ => ⟨rfl, rfl⟩
  case waiting => exact fun _ => rebuilt noKind
  case started => exact rebuilt EntryKind.notRequest
  case silent => exact fun silent => absurd running silent

/-- The live layer emptied at a completion (R75). -/
theorem sentFrame {s : State} (follow : FramesFollow noKind s) (lf : LayerFrame) :
    FramesFollow noKind (s.sentFrame lf) := by
  have emptied : FramesFollow noKind (s.withTx { s.tx with state := .quiet, failures := 0, live := none }) := by
    have alike : BuildsAlike noKind s (s.withTx { s.tx with state := .quiet, failures := 0, live := none }) :=
      .of_same rfl (fun _ => rfl) rfl rfl rfl
    exact ⟨fun lf held => (follow.next lf held).alike alike fun _ _ => ⟨rfl, rfl⟩, fun waiting => (nomatch waiting),
      fun _ held => (nomatch held), fun silent => ⟨(follow.silent silent).1, rfl⟩⟩
  unfold State.sentFrame
  dsimp only
  split
  · exact emptied.withRx _
  · exact emptied

end FramesFollow

/-- A START counter that goes down leaves stale the frames of its point, where it was the last, and no other (R49). -/
theorem BuildsAlike.spend (s : State) (p : PointIndex) {stale : EntryKind → Bool}
    (requests : ∀ n id tag, stale (.request n id tag) = false)
    (last : s.tx.startCounters.get p = 1 → ∀ kind, kind.carriesPoint p = true → stale kind = true) :
    BuildsAlike stale s (s.spend p) := by
  refine .of_parts rfl (fun _ => rfl) (fun _ => rfl) requests (fun q => ?_) (fun _ => .inr rfl)
  by_cases here : q = p
  · subst here
    by_cases one : s.tx.startCounters.get q = 1
    · exact .inl (last one)
    · right
      refine ⟨?_, rfl⟩
      have left : (0 < s.tx.startCounters.get q - 1) ↔ 0 < s.tx.startCounters.get q := by omega
      simp [State.pointContent, State.spend, left]
  · right
    refine ⟨?_, rfl⟩
    simp [State.pointContent, State.spend, Table.get_set_other _ _ here]

namespace FramesFollow

theorem spendStart {s : State} (follow : FramesFollow noKind s) (f : Frame) : FramesFollow noKind (s.spendStart f) := by
  rcases s.spendStart_cases f with ⟨_, e⟩ | ⟨p, _, ⟨_, e⟩ | ⟨more, e⟩⟩ <;> rw [e]
  · exact follow
  · have spent : FramesFollow (EntryKind.carriesPoint p) (s.spend p) :=
      follow.of_alike (.spend s p (fun _ _ _ => rfl) fun _ _ carries => carries) rfl ⟨rfl, rfl, rfl⟩
        fun _ now => ⟨rfl, now⟩
    exact spent.refresh (fun _ _ _ => rfl) fun _ _ other => other
  · exact follow.of_same (.spend s p (fun _ _ _ => rfl) fun last => absurd last more) rfl ⟨rfl, rfl, rfl⟩

end FramesFollow

/-! ### Frames at the entry to HALTED (R79, R182) -/

theorem TxKept.haltSection (s : State) (n : Slot) : TxKept s.tx (s.haltSection n).tx := by
  unfold State.haltSection
  split
  · exact .refl _
  · rename_i sec _
    dsimp only
    split
    · exact TxKept.sectionChangeDue (s.setSection n (sec.disturb .halt)) n
    · exact .refl _

/-- The transmitter at the entry to HALTED: stopped, once the sections have taken HALT. -/
theorem State.enterHalted_kept {s : State} (halted : s.mode ≠ .halted) (cause : HaltCause) :
    ∃ x, (s.enterHalted cause).tx = x.halt ∧ TxKept s.tx x := by
  have e : s.enterHalted cause = (allSlots.foldl State.haltSection s).stopBlocks cause := if_neg halted
  refine ⟨(allSlots.foldl State.haltSection s).tx, by rw [e]; rfl, ?_⟩
  exact List.foldlRecOn (motive := fun t : State => TxKept s.tx t.tx) allSlots State.haltSection (.refl _)
    fun t kept n _ => kept.trans (.haltSection t n)

/-- What a SETTLE REQUEST was built from stands at the entry to HALTED. -/
theorem BuildsAlike.enterHalted {s : State} (halted : s.mode ≠ .halted) (cause : HaltCause) :
    BuildsAlike EntryKind.notRequest s (s.enterHalted cause) := by
  refine .of_parts (by rw [State.enterHalted_eq halted]) (fun m => ?_) (fun n => ?_) (fun _ _ _ => rfl)
    (fun p => .inl ?_) (fun n => .inl rfl)
  · rw [State.enterHalted_eq halted]
    simp only [Table.get_map, Option.map_map]
    rfl
  · rw [State.enterHalted_get halted, Option.map_map]
    congr 1
    funext sec
    exact sec.disturb_fixed .halt
  · intro kind carries
    cases kind with
    | request n id tag => cases carries
    | report q | status n | answer requester n q tag => rfl

/-- No frame is left unstarted, and one that is SENDING keeps what its SETTLE REQUEST was built from (R79). -/
theorem FramesCurrent.enterHalted {s : State} (halted : s.mode ≠ .halted)
    (started : ∀ lf ∈ s.tx.live, s.frameFits EntryKind.notRequest lf) (cause : HaltCause) :
    FramesCurrent (s.enterHalted cause) := by
  obtain ⟨x, tx, kept⟩ := State.enterHalted_kept halted cause
  have fits : ∀ lf ∈ (s.enterHalted cause).tx.live, (s.enterHalted cause).frameFits EntryKind.notRequest lf := by
    rw [tx]
    by_cases sending : x.state = .sending
    · rw [(x.halt_live.1 sending).1, kept.live (by rw [← kept.state, sending]; decide)]
      exact fun lf held => (started lf held).started (.enterHalted halted cause)
    · rw [(x.halt_live.2 sending).1]
      exact fun _ held => nomatch held
  constructor
  case next => rw [tx]; exact fun _ held => nomatch held
  case waiting =>
    rw [tx]
    intro waiting
    obtain ⟨sending, mute, quiet⟩ := x.halt_states
    by_cases s1 : x.state = .sending
    · exact nomatch (sending s1).symm.trans waiting
    · by_cases s2 : x.state = .mute
      · exact nomatch (mute s2).symm.trans waiting
      · exact nomatch (quiet s1 s2).symm.trans waiting
  case request =>
    intro lf held n request
    refine (fits lf held).2 ?_
    cases kind : lf.entry.kind with
    | request m id tag => rfl
    | report p | status m | answer requester m p tag => rw [kind] at request; cases request
  case buildable => exact fun lf held => (fits lf held).1

end Sys2Proof.Machine

namespace Sys2Proof.Machine

open Sys2Proof.Claims

/-! ### Frames at every command (O55) -/

namespace FramesFollow

theorem ite {stale : EntryKind → Bool} {s t : State} {c : Prop} [Decidable c] (yes : c → FramesFollow stale s)
    (no : ¬ c → FramesFollow stale t) : FramesFollow stale (if c then s else t) := by
  split
  · exact yes ‹_›
  · exact no ‹_›

/-- A command that takes hold under a condition, and changes nothing elsewhere (log 3). -/
theorem orKept {stale : EntryKind → Bool} {s t : State} {c : Prop} [Decidable c] (follow : FramesFollow stale s)
    (taken : c → FramesFollow stale t) : FramesFollow stale (if c then t else s) := ite taken fun _ => follow

/-- Outside RUNNING the layers are empty, and stay so whatever else changes. -/
theorem of_silent {s : State} (follow : FramesFollow noKind s) (silent : s.mode ≠ .running) {t : State}
    (next : t.tx.next = s.tx.next) (live : t.tx.live = s.tx.live) : FramesFollow noKind t :=
  .of_empty (next.trans (follow.silent silent).1) (live.trans (follow.silent silent).2) _

theorem finishHandling {s : State} (follow : FramesFollow noKind s) : FramesFollow noKind s.finishHandling :=
  follow.withRx _

theorem endHandling {s : State} (follow : FramesFollow noKind s) (ofClass : Nat → Bool)
    {effect : Received → State → State} (taken : ∀ f, FramesFollow noKind (effect f s)) :
    FramesFollow noKind (s.endHandling ofClass effect) := by
  rcases s.endHandling_cases ofClass effect with ⟨e, _⟩ | ⟨_, _, _, _, ⟨_, e⟩ | ⟨f, _, e⟩⟩ <;> rw [e]
  · exact follow
  · exact follow.finishHandling
  · exact (taken f).finishHandling.preempt_driveAttn

theorem handleCountReport {s : State} (follow : FramesFollow noKind s) (f : Received) :
    FramesFollow noKind (handleCountReport f s) := by
  cases f with
  | countReport source c => exact follow.present source c
  | _ => exact follow

theorem handleSettleAnswer {s : State} (follow : FramesFollow noKind s) (f : Received) :
    FramesFollow noKind (handleSettleAnswer f s) := by
  cases f with
  | settleAnswer source requester n tag c =>
    have taken := follow.present source c
    exact ite (fun _ => taken.applySection n fun sec => State.takeAnswer_fixed _ _ _ _ _ sec) fun _ => taken
  | _ => exact follow

theorem answerPoint {s : State} (follow : FramesFollow noKind s) (requester : Station) (n : Slot) (tag : Serial)
    (p : Station × PointIndex) : FramesFollow noKind (answerPoint requester n tag s p) := by
  refine follow.orKept fun _ => ?_
  unfold Transmitter.answerDue
  dsimp only
  split
  · exact follow.withTx ⟨rfl, rfl, rfl⟩ rfl
  · split
    · exact follow.withTx ⟨rfl, rfl, rfl⟩ rfl
    · exact follow

theorem handleSettleRequest {s : State} (follow : FramesFollow noKind s) (f : Received) :
    FramesFollow noKind (handleSettleRequest f s) := by
  cases f with
  | settleRequest source n tag points =>
    exact follow.orKept fun _ => List.foldlRecOn (motive := fun t : State => FramesFollow noKind t) points _ follow
      fun t kept p _ => kept.answerPoint source n tag p
  | _ => exact follow

theorem handleRestoreCommand {s : State} (follow : FramesFollow noKind s) (f : Received) :
    FramesFollow noKind (handleRestoreCommand f s) := by
  cases f with
  | restoreCommand source target n direct serial =>
    exact follow.orKept fun _ => follow.applySection n fun sec => s.takeRestore_fixed direct serial sec
  | _ => exact follow

theorem expireAge {s : State} (follow : FramesFollow noKind s) {m : EntryIndex} {e : MirrorEntry}
    (held : s.mirror.get m = some e) : FramesFollow noKind (s.expireAge m e) := by
  unfold State.expireAge
  have name : e.expire.name = e.name := by
    unfold MirrorEntry.expire
    split <;> rfl
  split
  · exact ((follow.setMirror held name).notifySections _ _).preempt_driveAttn
  · exact follow
  · exact follow

theorem expireReport {s : State} (follow : FramesFollow noKind s) (p : PointIndex) :
    FramesFollow noKind (s.withTx (s.tx.expireReport p)) :=
  have timed : FramesFollow noKind (s.withTx { s.tx with
      reportTimers :=
        s.tx.reportTimers.set p (timerAfterExpiry (s.tx.holdsUnstarted (EntryKind.isReport p))) }) :=
    follow.withTx ⟨rfl, rfl, rfl⟩ rfl
  timed.hold (EntryKind.isReport p) (.report p) 3 5 .periodic

theorem expireStatus {s : State} (follow : FramesFollow noKind s) (n : Slot) :
    FramesFollow noKind (s.withTx (s.tx.expireStatus n)) :=
  have timed : FramesFollow noKind (s.withTx { s.tx with
      statusTimers :=
        s.tx.statusTimers.set n (timerAfterExpiry (s.tx.holdsUnstarted (EntryKind.isStatus n))) }) :=
    follow.withTx ⟨rfl, rfl, rfl⟩ rfl
  timed.hold (EntryKind.isStatus n) (.status n) 4 6 .periodic

theorem completeFrame {s : State} (follow : FramesFollow noKind s) (lf : LayerFrame) :
    FramesFollow noKind (s.completeFrame lf) := (follow.sentFrame lf).spendStart _

/-- An abort below the sixteenth failure (R76). -/
theorem abortFrame_again {s : State} (follow : FramesFollow noKind s) (running : s.mode = .running) :
    FramesFollow noKind (s.withTx { s.tx with failures := s.tx.failures + 1 }).returnToWaiting :=
  (follow.withTx (x := { s.tx with failures := s.tx.failures + 1 }) ⟨rfl, rfl, rfl⟩ rfl).returnToWaiting running

theorem enterMute {s : State} (halted : s.mode ≠ .halted) : FramesCurrent s.enterMute :=
  have current : FramesCurrent ((s.withTx { s.tx with
      state := .mute, failures := s.tx.failures + 1, live := none, next := none }).enterHalted .mute) :=
    .enterHalted (by exact halted) (fun _ held => absurd held (Option.not_mem_none _)) _
  ⟨current.next, current.waiting, current.request, current.buildable⟩

theorem enterHalted_driveAttn {s : State} (follow : FramesFollow noKind s) (halted : s.mode ≠ .halted)
    (cause : HaltCause) : FramesCurrent (s.enterHalted cause).driveAttn :=
  have current := FramesCurrent.enterHalted halted follow.started cause
  ⟨current.next, current.waiting, current.request, current.buildable⟩

/-- A character ends, with a clash perhaps (R82 to R87). -/
theorem takeCharacter {s : State} (follow : FramesFollow noKind s) (halted : s.mode ≠ .halted) (b : Byte) :
    FramesCurrent (s.takeCharacter b) := by
  rcases s.takeCharacter_cases b with ⟨_, _, e⟩ | ⟨_, e⟩ | ⟨_, _, e⟩ <;> rw [e]
  · exact (follow.withRx _).current
  · rcases State.judgeFrame_cases (s.withRx (s.rx.takeByte b)) (s.rx.takeByte b).buffer with
      ⟨_, e⟩ | ⟨_, _, _, e⟩ | ⟨_, _, _, e⟩ | ⟨_, _, e⟩ <;> rw [e]
    · exact (follow.withRx _).current
    · exact (follow.withRx _).current
    · exact ((follow.withRx _).withRx _).enterHalted_driveAttn (by exact halted) _
    · exact (follow.withRx _).current
  · exact (follow.withRx _).current

end FramesFollow

/-- Outside HALTED every command leaves the unstarted frames current. -/
theorem exec_framesCurrent (c : Instr) {s t : State} (h : exec c s = .next t) (halted : s.mode ≠ .halted)
    (follow : FramesFollow noKind s) : FramesCurrent t := by
  have swept (r : Results) (happens : Bool) : FramesCurrent (if happens then s.completeSweep r else s) :=
    (follow.orKept fun _ => follow.completeSweep r).current
  cases c <;> obtain rfl := Host.Outcome.next.inj h
  case resetAssertion k => exact (follow.orKept fun _ => .of_empty rfl rfl _).current
  case resetRelease straps =>
    split
    · rename_i held
      have silent : s.mode ≠ .running := by rw [held]; decide
      split
      · exact follow.enterHalted_driveAttn halted _
      · exact (follow.of_silent (t := (s.enterLoading straps).driveAttn) silent rfl rfl).current
    · exact follow.current
  case configurationReadComplete levels =>
    split
    · rename_i reading
      have silent : s.mode ≠ .running := by rw [reading.1]; decide
      split
      · exact (follow.of_silent (t := (s.loadImage (bytesOfBits levels)).driveAttn) silent rfl rfl).current
      · exact follow.enterHalted_driveAttn halted _
    · exact follow.current
  case loadingTimerExpiry =>
    refine (follow.orKept fun due => ?_).current
    exact follow.of_silent (by rw [due.1]; decide) rfl rfl
  case listeningTimerExpiry =>
    refine (follow.orKept fun due => ?_).current
    obtain ⟨writes, _⟩ := s.runningEntries_eq
    have next : s.runningEntries.next = s.tx.next := by rw [writes]
    have live : s.runningEntries.live = s.tx.live := by rw [writes]
    exact follow.of_silent (by rw [due.1]; decide) next live
  case sweepCompletion r => exact (follow.completeSweep r).current
  case filteredLevelChange r _ _ | channelFaulted r _ _ | channelRecovered r _ _ | referenceFaulted r
      | referenceRecovered r | dwellEnd r _ | toggleHalfPeriod r _ => exact swept r _
  case reportTimerExpiry p =>
    exact (follow.orKept fun _ => (follow.expireReport p).preempt).current
  case statusTimerExpiry n =>
    exact (follow.orKept fun _ => (follow.expireStatus n).preempt).current
  case ageTimerExpiry m =>
    split
    · exact follow.current
    · rename_i e held
      refine (follow.orKept fun _ => .ite (fun _ => ?_) fun _ => follow.expireAge held).current
      exact follow.setMirror (e' := e.passOver) held rfl
  case deadlineExpiry n =>
    split
    · exact follow.current
    · exact (follow.orKept fun _ => (follow.applySection n Section.expireDeadline_fixed).preempt_driveAttn).current
  case holdOffExpiry n =>
    split
    · exact follow.current
    · exact (follow.orKept fun _ => (follow.applySection n s.expireHoldOff_fixed).preempt_driveAttn).current
  case nextLayerLoad => exact (follow.orKept fun due => follow.loadNext due.1).current
  case liveLayerMove => exact (follow.orKept fun due => follow.move due.1).current
  case idleCompletion =>
    refine (follow.orKept fun _ => ?_).current
    unfold Transmitter.start
    split
    · split
      · exact (follow.withRx s.rx.idle).begun ⟨rfl, rfl⟩ (by intro waiting; cases waiting) rfl
      · exact follow.withRx s.rx.idle
    · exact follow.withRx s.rx.idle
  case arbitrationWon bits =>
    refine (follow.orKept fun _ => ?_).current
    exact follow.begun ⟨rfl, rfl⟩ (by intro waiting; cases waiting) rfl
  case lostArbitration bit samples => exact (follow.orKept fun due => follow.returnToWaiting due.1).current
  case bitError position samples =>
    split
    · split
      · rename_i running
        unfold State.abortFrame
        split
        · exact FramesFollow.enterMute halted
        · exact (follow.abortFrame_again running).current
      · exact (follow.orKept fun due => absurd due.1 halted).current
    · exact follow.current
  case mute position samples =>
    split
    · exact FramesFollow.enterMute halted
    · exact follow.current
  case frameCompletion samples =>
    split
    · exact follow.current
    · exact (follow.orKept fun _ => follow.completeFrame _).current
  case framingError bit samples =>
    split <;> exact (follow.orKept fun _ => follow.withRx _).current
  case badLength data | receiverFrameComplete data | characterComplete data =>
    split
    · exact follow.takeCharacter halted _
    · exact follow.current
  case countReport => exact (follow.endHandling _ follow.handleCountReport).current
  case settleAnswer => exact (follow.endHandling _ follow.handleSettleAnswer).current
  case settleRequest => exact (follow.endHandling _ follow.handleSettleRequest).current
  case restoreCommand => exact (follow.endHandling _ follow.handleRestoreCommand).current
  case sectionStatus | class7FrameHandled => exact (follow.endHandling _ fun _ => follow).current
  case startBit dominantSamples samples => exact (follow.orKept fun _ => follow.withRx _).current

/-- In HALTED a frame being finished is left, or is gone (R79). -/
theorem exec_framesCurrent_halted (c : Instr) {s t : State} (h : exec c s = .next t) (halted : s.mode = .halted)
    (sound : TxSound s) (current : FramesCurrent s) : FramesCurrent t := by
  have next : s.tx.next = none := (sound.silent (by rw [halted]; decide)).1
  by_cases reset : ∃ k, 2 ≤ k ∧ c = .resetAssertion k
  · obtain ⟨k, long, rfl⟩ := reset
    rw [exec_resetAssertion, if_pos long] at h
    obtain rfl := Host.Outcome.next.inj h
    exact (FramesFollow.of_empty rfl rfl _).current
  · rcases exec_halted c h halted fun k long e => reset ⟨k, long, e⟩ with
      rfl | ⟨_, lf, _, ⟨_, _, _, _, rfl⟩ | ⟨_, _, _, rfl⟩⟩
    · exact current
    · exact (FramesFollow.of_empty (by exact next) rfl _).current
    · refine (FramesFollow.of_empty (State.completeFrame_next_none lf next) ?_ _).current
      rw [State.completeFrame_tx]

/-- A microsecond, or a command put on the queue, changes nothing that a frame is built from. -/
theorem FramesCurrent.idleStep {s : State} (current : FramesCurrent s) : FramesCurrent s.idleStep := by
  have passed : BuildsAlike noKind s s.tick := by
    refine .of_parts rfl (fun m => ?_) (fun n => ?_) (fun _ _ _ => rfl) (fun p => .inr ⟨rfl, rfl⟩) fun n => .inr ?_
    · simp only [State.tick, Table.get_map, Option.map_map]
      rfl
    · simp only [State.tick, Table.get_map, Option.map_map]
      rfl
    · simp only [State.tick, Table.get_map, Option.map_map]
      rfl
  have built (e : Entry) : s.tick.buildFrame e = s.buildFrame e := passed.builds e rfl
  unfold State.idleStep
  split
  · exact ⟨current.next, current.waiting, current.request, current.buildable⟩
  · refine ⟨fun lf held => ?_, fun waiting lf held => ?_, fun lf held n request => ?_, fun lf held => ?_⟩ <;> rw [built]
    · exact current.next lf held
    · exact current.waiting waiting lf held
    · exact current.request lf held n request
    · exact current.buildable lf held

/-- Settles O55: each operation leaves stale at most what its refresh then builds anew. -/
theorem unstartedFramesStayCurrent : Obligations.UnstartedFramesStayCurrent := by
  intro s t sound current h
  unfold step at h
  split at h
  · obtain rfl := Host.Outcome.next.inj h
    exact current.idleStep
  · rename_i c rest _
    have sound' : TxSound { s with pending := rest } :=
      ⟨sound.live, sound.silent, sound.mute, sound.muteHalts, sound.failures, sound.starts, sound.kept, sound.keptLive,
        sound.keptNext⟩
    have current' : FramesCurrent { s with pending := rest } :=
      ⟨current.next, current.waiting, current.request, current.buildable⟩
    by_cases halted : s.mode = .halted
    · exact exec_framesCurrent_halted c h halted sound' current'
    · exact exec_framesCurrent c h halted (.of_current halted sound' current')

end Sys2Proof.Machine

namespace Sys2Proof.Machine

open Sys2Proof.Claims

/-! ### Keys of entries (R65) -/

theorem EntryKind.sameKey_iff {a b : EntryKind} : a.sameKey b = true ↔ keyOf a = keyOf b := by
  cases a <;> cases b <;> simp [EntryKind.sameKey, keyOf, and_assoc]

theorem EntryKind.sameKey_eq_false_iff {a b : EntryKind} : a.sameKey b = false ↔ keyOf a ≠ keyOf b := by
  rw [ne_eq, ← EntryKind.sameKey_iff, Bool.not_eq_true]

theorem EntryKind.isReport_iff {p : PointIndex} {kind : EntryKind} : kind.isReport p = true ↔ kind = .report p := by
  cases kind <;> simp [EntryKind.isReport]

theorem EntryKind.isStatus_iff {n : Slot} {kind : EntryKind} : kind.isStatus n = true ↔ kind = .status n := by
  cases kind <;> simp [EntryKind.isStatus]

theorem keyOf_eq_report_iff {p : PointIndex} {kind : EntryKind} : keyOf kind = .report p ↔ kind = .report p := by
  cases kind <;> simp [keyOf]

theorem keyOf_eq_status_iff {n : Slot} {kind : EntryKind} : keyOf kind = .status n ↔ kind = .status n := by
  cases kind <;> simp [keyOf]

/-- The request entries of a slot. -/
theorem EntryKind.isRequest_iff {n : Slot} {kind : EntryKind} :
    kind.isRequest n = true ↔ keyOf kind = .request n 0 0 := by
  cases kind <;> simp [EntryKind.isRequest, keyOf]

theorem EntryKind.isAnswer_keyOf (kind : EntryKind) : (keyOf kind).isAnswer = kind.isAnswer := by cases kind <;> rfl

/-- The key says which classes an entry may hold, and two it may hold have a lower one it may hold (R65, R67). -/
theorem EntryKind.mayHold_min {a b : EntryKind} {x y : Nat} (key : keyOf a = keyOf b) (holds : a.mayHold x)
    (holds' : b.mayHold y) : b.mayHold (min x y) := by
  cases a <;> cases b <;> simp only [keyOf, reduceCtorEq] at key <;> simp only [EntryKind.mayHold] at * <;> omega

/-! ### The pending list of the transmitter -/

/-- The key of an entry. -/
def Entry.key (e : Entry) : EntryKind := keyOf e.kind

/-- The pending list and the next layer, as R65 to R67 ask: `inUse` says what an entry may concern, `listed` what a
pending one may be for. That none is below the next layer's class is the work of preemption. The timers that run are of
what is in use (R42, R170). -/
structure Transmitter.ListSound (inUse listed : EntryKind → Prop) (t : Transmitter) : Prop where
  ordered : (t.entries.map Entry.place).Pairwise (· < ·)
  distinct : (t.entries.map Entry.key).Nodup
  entries : ∀ e ∈ t.entries, e.place < t.nextPlace ∧ e.kind.mayHold e.cls ∧ inUse e.kind ∧ listed e.kind
  answers : t.answersHeld ≤ Config.answerCapacity
  next : ∀ lf ∈ t.next, lf.entry.place < t.nextPlace ∧ lf.entry.kind.mayHold lf.entry.cls ∧ inUse lf.entry.kind ∧
    lf.entry.place ∉ t.entries.map Entry.place
  reportTimers : ∀ p, (t.reportTimers.get p).running = true → inUse (.report p)
  statusTimers : ∀ n, (t.statusTimers.get n).running = true → inUse (.status n)

/-- The answers held, counted by key. -/
theorem Transmitter.answersHeld_eq (t : Transmitter) :
    t.answersHeld = (t.entries.map Entry.key).countP EntryKind.isAnswer +
      if layerHolds EntryKind.isAnswer t.next then 1 else 0 := by
  unfold Transmitter.answersHeld
  rw [List.countP_map, List.countP_eq_length_filter]
  congr 3
  funext e
  exact (EntryKind.isAnswer_keyOf e.kind).symm

/-- Whether a layer holds an answer is a matter of its entry's kind. -/
theorem layerHolds_congr (which : EntryKind → Bool) {a b : Option LayerFrame}
    (kinds : a.map (fun lf => lf.entry.kind) = b.map fun lf => lf.entry.kind) :
    layerHolds which a = layerHolds which b := by
  cases a <;> cases b <;> simp_all [layerHolds]

theorem Transmitter.answersHeld_append (t : Transmitter) (kind : EntryKind) (cls : Nat) :
    (t.append kind cls).answersHeld = t.answersHeld + if kind.isAnswer then 1 else 0 := by
  have next : (t.append kind cls).next = t.next := rfl
  rw [answersHeld_eq, answersHeld_eq, next, Nat.add_right_comm]
  congr 1
  simp only [Transmitter.append, List.map_append, List.map_cons, List.map_nil, List.countP_append,
    List.countP_singleton, Entry.key, EntryKind.isAnswer_keyOf]

namespace Transmitter.ListSound

variable {inUse inUse' listed listed' : EntryKind → Prop} {t u : Transmitter}

theorem mono (sound : t.ListSound inUse listed) (use : ∀ kind, inUse kind → inUse' kind)
    (list : ∀ e ∈ t.entries, listed e.kind → listed' e.kind) : t.ListSound inUse' listed' where
  ordered := sound.ordered
  distinct := sound.distinct
  entries := fun e mem =>
    have ⟨place, holds, used, listed⟩ := sound.entries e mem
    ⟨place, holds, use _ used, list e mem listed⟩
  answers := sound.answers
  next := fun lf held =>
    have ⟨place, holds, used, apart⟩ := sound.next lf held
    ⟨place, holds, use _ used, apart⟩
  reportTimers := fun p running => use _ (sound.reportTimers p running)
  statusTimers := fun n running => use _ (sound.statusTimers n running)

/-- The list, the numbering, the entry in the next layer and the timers that run are the same. -/
theorem of_same (sound : t.ListSound inUse listed) (entries : u.entries = t.entries) (place : u.nextPlace = t.nextPlace)
    (next : u.next.map LayerFrame.entry = t.next.map LayerFrame.entry)
    (reports : ∀ p, (u.reportTimers.get p).running = (t.reportTimers.get p).running)
    (statuses : ∀ n, (u.statusTimers.get n).running = (t.statusTimers.get n).running) : u.ListSound inUse listed := by
  have kinds := congrArg (Option.map Entry.kind) next
  rw [Option.map_map, Option.map_map] at kinds
  have answers : u.answersHeld = t.answersHeld := by
    rw [answersHeld_eq, answersHeld_eq, entries, layerHolds_congr EntryKind.isAnswer kinds]
  refine ⟨by rw [entries]; exact sound.ordered, by rw [entries]; exact sound.distinct,
    by rw [entries, place]; exact sound.entries, by rw [answers]; exact sound.answers, fun lf held => ?_,
    fun p running => sound.reportTimers p (by rw [← reports]; exact running),
    fun n running => sound.statusTimers n (by rw [← statuses]; exact running)⟩
  have entry : t.next.map LayerFrame.entry = some lf.entry :=
    next.symm.trans (congrArg (Option.map LayerFrame.entry) held)
  obtain ⟨lf', held', same⟩ := Option.map_eq_some_iff.1 entry
  rw [entries, place, ← same]
  exact sound.next lf' held'

/-- Entries that keep their keys and places (R44, R66, R135). -/
theorem mapEntries (sound : t.ListSound inUse listed) (g : Entry → Entry) (place : ∀ e, (g e).place = e.place)
    (key : ∀ e, (g e).key = e.key)
    (ok : ∀ e ∈ t.entries, (g e).kind.mayHold (g e).cls ∧ inUse (g e).kind ∧ listed (g e).kind) :
    ({ t with entries := t.entries.map g } : Transmitter).ListSound inUse listed := by
  have places : (t.entries.map g).map Entry.place = t.entries.map Entry.place := by
    rw [List.map_map]
    exact List.map_congr_left fun e _ => place e
  have keys : (t.entries.map g).map Entry.key = t.entries.map Entry.key := by
    rw [List.map_map]
    exact List.map_congr_left fun e _ => key e
  refine ⟨by rw [places]; exact sound.ordered, by rw [keys]; exact sound.distinct, fun e' mem' => ?_, ?_, ?_,
    sound.reportTimers, sound.statusTimers⟩
  · obtain ⟨e, mem, rfl⟩ := List.mem_map.1 mem'
    exact ⟨by rw [place]; exact (sound.entries e mem).1, ok e mem⟩
  · have held := sound.answers
    rw [answersHeld_eq] at held ⊢
    rw [keys]
    exact held
  · rw [places]
    exact sound.next

/-- Entries that leave the list (R68, R134). -/
theorem sublist (sound : t.ListSound inUse listed) {l : List Entry} (sub : l.Sublist t.entries) :
    ({ t with entries := l } : Transmitter).ListSound inUse listed := by
  refine ⟨sound.ordered.sublist (sub.map _), sound.distinct.sublist (sub.map _),
    fun e mem => sound.entries e (sub.subset mem), ?_, fun lf held => ?_, sound.reportTimers, sound.statusTimers⟩
  · have held := sound.answers
    rw [answersHeld_eq] at held ⊢
    have fewer := (sub.map Entry.key).countP_le (p := EntryKind.isAnswer)
    dsimp only at *
    omega
  · obtain ⟨place, holds, used, apart⟩ := sound.next lf held
    exact ⟨place, holds, used, fun mem => apart ((sub.map _).subset mem)⟩

/-- A new entry at the end (R65). -/
theorem append (sound : t.ListSound inUse listed) {kind : EntryKind} {cls : Nat}
    (fresh : keyOf kind ∉ t.entries.map Entry.key) (holds : kind.mayHold cls) (used : inUse kind)
    (listed' : listed kind) (room : kind.isAnswer = true → t.answersHeld < Config.answerCapacity) :
    (t.append kind cls).ListSound inUse listed := by
  refine ⟨?_, ?_, ?_, ?_, ?_, sound.reportTimers, sound.statusTimers⟩
  · simp only [Transmitter.append, List.map_append, List.map_cons, List.map_nil]
    refine List.pairwise_append.2 ⟨sound.ordered, List.pairwise_singleton _ _, fun a mem b last => ?_⟩
    obtain ⟨e, mem', rfl⟩ := List.mem_map.1 mem
    rw [List.mem_singleton.1 last]
    exact (sound.entries e mem').1
  · simp only [Transmitter.append, List.map_append, List.map_cons, List.map_nil]
    exact List.nodup_append.2 ⟨sound.distinct, List.nodup_singleton _, fun a mem b last => by
      rw [List.mem_singleton.1 last]
      rintro rfl
      exact fresh mem⟩
  · intro e mem
    rcases List.mem_append.1 mem with mem | mem
    · obtain ⟨place, rest⟩ := sound.entries e mem
      exact ⟨place.trans (Nat.lt_succ_self _), rest⟩
    · rw [List.mem_singleton.1 mem]
      exact ⟨Nat.lt_succ_self _, holds, used, listed'⟩
  · have held := sound.answers
    rw [answersHeld_append]
    split
    · exact room ‹_›
    · exact held
  · intro lf held
    obtain ⟨place, holds, used, apart⟩ := sound.next lf held
    refine ⟨place.trans (Nat.lt_succ_self _), holds, used, ?_⟩
    simp only [Transmitter.append, List.map_append, List.map_cons, List.map_nil, List.mem_append, List.mem_singleton,
      not_or]
    exact ⟨apart, place.ne⟩

theorem not_pending {which : EntryKind → Bool} {kind : EntryKind}
    (key : ∀ k, which k = true ↔ keyOf k = keyOf kind) (absent : ¬ t.isPending which = true) :
    keyOf kind ∉ t.entries.map Entry.key := by
  intro mem
  obtain ⟨e, mem, same⟩ := List.mem_map.1 mem
  exact absent (List.any_eq_true.2 ⟨e, mem, (key _).2 same⟩)

/-- What falls due is held (R44 to R46, R66). -/
theorem hold (sound : t.ListSound inUse listed) {which : EntryKind → Bool} {kind : EntryKind}
    (key : ∀ k, which k = true ↔ keyOf k = keyOf kind) {changeClass periodicClass : Nat}
    (change : kind.mayHold changeClass) (periodic : kind.mayHold periodicClass) (used : inUse kind)
    (listed' : listed kind) (noAnswer : kind.isAnswer = false) (cause : DueCause) :
    (t.hold which kind changeClass periodicClass cause).ListSound inUse listed := by
  have appended (cls : Nat) (holds : kind.mayHold cls) (absent : ¬ t.isPending which = true) :=
    sound.append (not_pending key absent) holds used listed' fun answer => nomatch noAnswer.symm.trans answer
  unfold Transmitter.hold
  split
  · cases cause with
    | periodic => exact sound
    | change =>
      refine sound.mapEntries _ (fun e => ?_) (fun e => ?_) (fun e mem => ?_)
      · split <;> rfl
      · split <;> rfl
      · obtain ⟨_, holds, rest⟩ := sound.entries e mem
        split
        · rename_i chosen
          rw [min_comm]
          exact ⟨EntryKind.mayHold_min ((key _).1 chosen).symm change holds, rest⟩
        · exact ⟨holds, rest⟩
  · split
    · exact sound
    · cases cause with
      | change => exact appended _ change ‹_›
      | periodic => exact appended _ periodic ‹_›

/-- An answer falls due (R135). -/
theorem answerDue (sound : t.ListSound inUse listed) {requester : Station} {n : Slot} {p : PointIndex} {tag : Serial}
    (used : inUse (.answer requester n p tag)) (listed' : listed (.answer requester n p tag)) :
    (t.answerDue requester n p tag).ListSound inUse listed := by
  have key (k : EntryKind) : (EntryKind.answer requester n p tag).sameKey k = true ↔
      keyOf k = keyOf (.answer requester n p tag) := EntryKind.sameKey_iff.trans eq_comm
  unfold Transmitter.answerDue
  dsimp only
  split
  · refine sound.mapEntries _ (fun e => ?_) (fun e => ?_) (fun e mem => ?_)
    · split <;> rfl
    · split
      · exact ((key _).1 ‹_›).symm
      · rfl
    · obtain ⟨_, holds, rest⟩ := sound.entries e mem
      split
      · rename_i same
        refine ⟨?_, used, listed'⟩
        cases kind : e.kind with
        | answer _ _ _ _ => rw [kind] at holds; exact holds
        | report _ | status _ | request _ _ _ => rw [kind] at same; cases same
      · exact ⟨holds, rest⟩
  · split
    · rename_i absent room
      exact sound.append (not_pending key absent) rfl used listed' fun _ => room
    · exact sound

end Transmitter.ListSound

end Sys2Proof.Machine

namespace Sys2Proof.Machine

open Sys2Proof.Claims

/-! ### An entry put in at its place (R67) -/

/-- Where an entry is put in among others. -/
theorem insertByPlace_placedIn (e : Entry) (l : List Entry) : placedIn e l (insertByPlace e l) := by
  induction l with
  | nil => exact ⟨[], [], rfl, rfl, fun _ h => (nomatch h), fun _ h => (nomatch h)⟩
  | cons f rest ih =>
    unfold insertByPlace
    split
    · exact ⟨[], f :: rest, rfl, rfl, fun _ h => (nomatch h), fun h first => by cases first; assumption⟩
    · obtain ⟨before, after, whole, put, earlier, later⟩ := ih
      refine ⟨f :: before, after, by rw [whole]; rfl, by rw [put]; rfl, List.forall_mem_cons.2 ⟨?_, earlier⟩, later⟩
      omega

theorem insertByPlace_perm (e : Entry) (l : List Entry) : (insertByPlace e l).Perm (e :: l) := by
  obtain ⟨before, after, rfl, put, _⟩ := insertByPlace_placedIn e l
  rw [put]
  exact List.perm_middle

/-- A list in the order of places stays so, where the place is free. -/
theorem insertByPlace_ordered {e : Entry} {l : List Entry} (ordered : (l.map Entry.place).Pairwise (· < ·))
    (free : e.place ∉ l.map Entry.place) : ((insertByPlace e l).map Entry.place).Pairwise (· < ·) := by
  induction l with
  | nil => exact List.pairwise_singleton _ _
  | cons f rest ih =>
    obtain ⟨first, others⟩ := List.pairwise_cons.1 ordered
    rw [List.map_cons, List.mem_cons, not_or] at free
    unfold insertByPlace
    split
    · refine List.pairwise_cons.2 ⟨List.forall_mem_cons.2 ⟨‹_›, fun place mem => ?_⟩, ordered⟩
      exact Nat.lt_trans ‹_› (first place mem)
    · refine List.pairwise_cons.2 ⟨fun place mem => ?_, ih others free.2⟩
      have within := ((insertByPlace_perm e rest).map Entry.place).mem_iff.1 mem
      rcases List.mem_cons.1 within with rfl | mem
      · have := free.1
        omega
      · exact first place mem

/-! ### Entries that leave and return -/

/-- Without this entry the list holds all others. -/
theorem perm_cons_filter_ne {l : List Entry} (distinct : l.Nodup) {e : Entry} (mem : e ∈ l) :
    l.Perm (e :: l.filter fun g => g ≠ e) := by
  have same : (l.filter fun g => g ≠ e) = l.erase e := by
    rw [distinct.erase_eq_filter]
    exact List.filter_congr fun g _ => by by_cases h : g = e <;> simp [h]
  rw [same]
  exact List.perm_cons_erase mem

theorem Transmitter.answersHeld_of_none {t : Transmitter} (empty : t.next = none) :
    t.answersHeld = (t.entries.map Entry.key).countP EntryKind.isAnswer := by
  rw [answersHeld_eq, empty]
  rfl

theorem Transmitter.answersHeld_of_some {t : Transmitter} {lf : LayerFrame} (held : t.next = some lf) :
    t.answersHeld = (t.entries.map Entry.key).countP EntryKind.isAnswer +
      if lf.entry.kind.isAnswer then 1 else 0 := by
  rw [answersHeld_eq, held]
  rfl

theorem countP_answers_cons (e : Entry) (l : List Entry) :
    ((e :: l).map Entry.key).countP EntryKind.isAnswer =
      (l.map Entry.key).countP EntryKind.isAnswer + if e.kind.isAnswer then 1 else 0 := by
  rw [List.map_cons, List.countP_cons, Entry.key, EntryKind.isAnswer_keyOf]

/-- An entry that returns is put in at its place, or becomes one with the pending entry of its key (R67). -/
theorem Transmitter.takeBack_cases (t : Transmitter) (e : Entry) :
    ((∀ f ∈ t.entries, keyOf f.kind ≠ keyOf e.kind) ∧ t.takeBack e = { t with entries := insertByPlace e t.entries }) ∨
      ∃ f ∈ t.entries, keyOf f.kind = keyOf e.kind ∧
        t.takeBack e = { t with
          entries := insertByPlace (mergeEntries e f) (t.entries.filter fun g => g ≠ f) } := by
  unfold Transmitter.takeBack
  cases found : t.entries.find? fun f => e.kind.sameKey f.kind with
  | none => exact .inl ⟨fun f mem same => List.find?_eq_none.1 found f mem (EntryKind.sameKey_iff.2 same.symm), rfl⟩
  | some f =>
    have hit := List.find?_some found
    exact .inr ⟨f, List.mem_of_find?_eq_some found, (EntryKind.sameKey_iff.1 hit).symm, rfl⟩

/-! ### The entries of refreshed frames (R70) -/

/-- The entry that a refresh gives a frame in a layer (R70). -/
def refreshedEntry (concerns : EntryKind → Bool) (newClass : EntryKind → Nat → Nat) (e : Entry) : Entry :=
  if concerns e.kind then { e with cls := newClass e.kind e.cls } else e

theorem State.refreshLayer_entry (s : State) (concerns : EntryKind → Bool) (newClass : EntryKind → Nat → Nat)
    (layer : Option LayerFrame) : (s.refreshLayer concerns newClass layer).map LayerFrame.entry =
      layer.map fun lf => refreshedEntry concerns newClass lf.entry := by
  unfold State.refreshLayer
  rw [Option.map_map]
  congr 1
  funext lf
  simp only [Function.comp_apply, refreshedEntry]
  split
  · rw [State.rebuild_entry]
  · rfl

namespace Transmitter.ListSound

variable {inUse inUse' listed listed' : EntryKind → Prop} {t u : Transmitter}

/-- The next layer emptied, its entry in no list. -/
theorem emptied (sound : t.ListSound inUse listed) :
    ({ t with next := none } : Transmitter).ListSound inUse listed := by
  refine ⟨sound.ordered, sound.distinct, sound.entries, ?_, fun _ held => (nomatch held), sound.reportTimers,
    sound.statusTimers⟩
  have held := sound.answers
  rw [answersHeld_eq] at held
  rw [answersHeld_of_none rfl]
  dsimp only at *
  omega

/-- Without an entry: its place and key are free, and the others are as they were. -/
theorem removed (sound : t.ListSound inUse listed) {e : Entry} (mem : e ∈ t.entries) :
    e.place ∉ (t.entries.filter fun g => g ≠ e).map Entry.place ∧
      e.key ∉ (t.entries.filter fun g => g ≠ e).map Entry.key ∧
      (t.entries.map Entry.key).countP EntryKind.isAnswer =
        ((t.entries.filter fun g => g ≠ e).map Entry.key).countP EntryKind.isAnswer +
          if e.kind.isAnswer then 1 else 0 := by
  have perm := perm_cons_filter_ne (sound.distinct.of_map _) mem
  have places : (t.entries.map Entry.place).Nodup := sound.ordered.imp fun h => h.ne
  refine ⟨?_, ?_, ?_⟩
  · exact (List.nodup_cons.1 ((perm.map Entry.place).nodup_iff.1 places)).1
  · exact (List.nodup_cons.1 ((perm.map Entry.key).nodup_iff.1 sound.distinct)).1
  · rw [(perm.map Entry.key).countP_eq, countP_answers_cons]

/-- A load: an entry goes from the list to the empty next layer (R68). -/
theorem load (sound : t.ListSound inUse listed) (empty : t.next = none) {e : Entry} (mem : e ∈ t.entries)
    (frame : Option Frame) : ({ t with
      entries := t.entries.filter fun g => g ≠ e
      next := frame.map fun f => ⟨e, f⟩ } : Transmitter).ListSound inUse listed := by
  have left := sound.sublist (List.filter_sublist (p := fun g => g ≠ e) (l := t.entries))
  obtain ⟨place, _, count⟩ := sound.removed mem
  have held := sound.answers
  rw [answersHeld_of_none empty, count] at held
  cases frame with
  | none =>
    refine left.of_same rfl rfl ?_ (fun _ => rfl) fun _ => rfl
    exact congrArg _ empty.symm
  | some f =>
    refine ⟨left.ordered, left.distinct, left.entries, ?_, fun lf loaded => ?_, left.reportTimers, left.statusTimers⟩
    · rw [answersHeld_of_some rfl]
      exact held
    · obtain rfl := Option.some.inj loaded
      obtain ⟨numbered, holds, used, _⟩ := sound.entries e mem
      exact ⟨numbered, holds, used, place⟩

/-- The load of a report or a status restarts its timer (R42, R170). -/
theorem restartTimer (sound : t.ListSound inUse listed) {kind : EntryKind} (used : inUse kind) :
    (t.restartTimer kind).ListSound inUse listed := by
  cases kind with
  | report p =>
    refine ⟨sound.ordered, sound.distinct, sound.entries, sound.answers, sound.next, fun q running => ?_,
      sound.statusTimers⟩
    by_cases here : q = p
    · exact here ▸ used
    · exact sound.reportTimers q (by rwa [Transmitter.restartTimer, Table.get_set_other _ _ here] at running)
  | status n =>
    refine ⟨sound.ordered, sound.distinct, sound.entries, sound.answers, sound.next, sound.reportTimers,
      fun m running => ?_⟩
    by_cases here : m = n
    · exact here ▸ used
    · exact sound.statusTimers m (by rwa [Transmitter.restartTimer, Table.get_set_other _ _ here] at running)
  | request n id tag => exact sound
  | answer requester n p tag => exact sound

/-- An entry put in at its free place, of a free key. -/
theorem insert (sound : t.ListSound inUse listed) (empty : t.next = none) {e : Entry}
    (ok : e.place < t.nextPlace ∧ e.kind.mayHold e.cls ∧ inUse e.kind ∧ listed e.kind)
    (place : e.place ∉ t.entries.map Entry.place) (key : e.key ∉ t.entries.map Entry.key)
    (room : (t.entries.map Entry.key).countP EntryKind.isAnswer + (if e.kind.isAnswer then 1 else 0) ≤
      Config.answerCapacity) :
    ({ t with entries := insertByPlace e t.entries } : Transmitter).ListSound inUse listed := by
  have perm := insertByPlace_perm e t.entries
  refine ⟨insertByPlace_ordered sound.ordered place, ?_, fun f mem => ?_, ?_, ?_, sound.reportTimers,
    sound.statusTimers⟩
  · exact (perm.map Entry.key).nodup_iff.2 (List.nodup_cons.2 ⟨key, sound.distinct⟩)
  · rcases List.mem_cons.1 (perm.mem_iff.1 mem) with rfl | mem
    · exact ok
    · exact sound.entries f mem
  · rw [answersHeld_of_none (t := { t with entries := insertByPlace e t.entries }) empty,
      (perm.map Entry.key).countP_eq, countP_answers_cons]
    exact room
  · exact fun _ held => nomatch empty.symm.trans held

/-- The next layer's entry returns to the list (R67). -/
theorem takeBack (sound : t.ListSound inUse listed) {lf : LayerFrame} (held : t.next = some lf)
    (listed' : listed lf.entry.kind) :
    (({ t with next := none } : Transmitter).takeBack lf.entry).ListSound inUse listed := by
  obtain ⟨numbered, holds, used, apart⟩ := sound.next lf held
  have room := sound.answers
  rw [answersHeld_of_some held] at room
  rcases ({ t with next := none } : Transmitter).takeBack_cases lf.entry with ⟨absent, e⟩ | ⟨f, mem, same, e⟩ <;> rw [e]
  · refine sound.emptied.insert rfl ⟨numbered, holds, used, listed'⟩ apart (fun mem => ?_) room
    obtain ⟨f, mem, same⟩ := List.mem_map.1 mem
    exact absent f mem same
  · obtain ⟨numbered', holds', used', listed''⟩ := sound.entries f mem
    obtain ⟨place, key, count⟩ := sound.removed mem
    have left := sound.emptied.sublist (List.filter_sublist (p := fun g => g ≠ f) (l := t.entries))
    refine left.insert rfl ⟨?_, EntryKind.mayHold_min same.symm holds holds', used', listed''⟩ ?_ key ?_
    · exact min_lt_of_left_lt numbered
    · rcases min_choice lf.entry.place f.place with earlier | earlier
      · intro mem
        rw [mergeEntries, earlier] at mem
        exact apart ((List.filter_sublist.map _).subset mem)
      · intro mem
        rw [mergeEntries, earlier] at mem
        exact place mem
    · refine (count.symm.trans_le ?_)
      omega

/-- A refresh gives its entries another class that they may hold (R45, R66, R70). -/
theorem refreshed {s : State} (sound : s.tx.ListSound inUse listed) {concerns : EntryKind → Bool}
    {newClass : EntryKind → Nat → Nat}
    (holds : ∀ kind cls, concerns kind = true → kind.mayHold cls → kind.mayHold (newClass kind cls)) :
    (s.refresh concerns newClass).tx.ListSound inUse listed := by
  have layer : (s.refresh concerns newClass).tx.next = s.refreshLayer concerns newClass s.tx.next := rfl
  refine ⟨sound.ordered, sound.distinct, sound.entries, ?_, fun lf' held' => ?_, sound.reportTimers, sound.statusTimers⟩
  · have kinds : (s.refreshLayer concerns newClass s.tx.next).map (fun lf => lf.entry.kind) =
        s.tx.next.map fun lf => lf.entry.kind := by
      have entries := congrArg (Option.map Entry.kind) (s.refreshLayer_entry concerns newClass s.tx.next)
      rw [Option.map_map, Option.map_map] at entries
      refine entries.trans (Option.map_congr fun lf _ => ?_)
      simp only [Function.comp_apply, refreshedEntry]
      split <;> rfl
    have held := sound.answers
    rw [answersHeld_eq] at held ⊢
    rw [layer, layerHolds_congr _ kinds]
    exact held
  · rw [layer] at held'
    have entry := (s.refreshLayer_entry concerns newClass s.tx.next).symm.trans
      (congrArg (Option.map LayerFrame.entry) held')
    obtain ⟨lf, held, same⟩ := Option.map_eq_some_iff.1 entry
    obtain ⟨place, may, used, apart⟩ := sound.next lf held
    rw [← same, refreshedEntry]
    split
    · exact ⟨place, holds _ _ ‹_› may, used, apart⟩
    · exact ⟨place, may, used, apart⟩

end Transmitter.ListSound

end Sys2Proof.Machine

namespace Sys2Proof.Machine

open Sys2Proof.Claims

/-! ### The pending list and the state (R65 to R68, R134)

What a list of pending entries rests on beside the transmitter: which points and slots are in use, and which round of a
slot is open. -/

/-- The number of the open round of a slot. -/
def State.roundId (s : State) (n : Slot) : Option Nat := (s.sections.get n).bind fun sec => sec.round.map Round.id

/-- A request is of an open round exactly if its number is the slot's. -/
theorem State.roundOpen_request {s : State} {n : Slot} {id : Nat} {tag : Serial} :
    s.roundOpen (.request n id tag) = true ↔ s.roundId n = some id := by
  unfold State.roundOpen State.roundId
  cases slot : s.sections.get n with
  | none => simp [slot]
  | some sec => cases round : sec.round <;> simp [slot, round]

/-- What a pending entry is for, in RUNNING: its round is open (R134). -/
def State.listed (s : State) (kind : EntryKind) : Prop := s.mode = .running → s.roundOpen kind = true

theorem State.listed_of_not_request (s : State) {kind : EntryKind}
    (other : ∀ n id tag, kind ≠ .request n id tag) : s.listed kind := fun _ => by
  cases kind with
  | request n id tag => exact absurd rfl (other n id tag)
  | report p | status n | answer requester n p tag => rfl

theorem State.concernsInUse_congr {s t : State} (config : t.config = s.config)
    (slots : ∀ n, (t.sections.get n).isSome = (s.sections.get n).isSome) : t.concernsInUse = s.concernsInUse := by
  funext kind
  cases kind <;> simp only [State.concernsInUse, slots, State.pointInUse_congr config]

theorem State.listed_congr {s t : State} (mode : t.mode = s.mode) (rounds : ∀ n, t.roundId n = s.roundId n) :
    t.listed = s.listed := by
  funext kind
  unfold State.listed
  cases kind with
  | request n id tag => rw [mode, State.roundOpen_request, State.roundOpen_request, rounds]
  | report p | status n | answer requester n p tag => rw [mode]; rfl

/-- The pending list between two commands and within one, before preemption. Outside RUNNING nothing is loaded and no
timer runs, and but for HALTED nothing is pending (R42, R69, R78, R170). -/
structure PendingKept (s : State) : Prop where
  list : s.tx.ListSound s.concernsInUse s.listed
  silent : s.mode ≠ .running → s.tx.next = none ∧ (s.mode ≠ .halted → s.tx.entries = []) ∧
    (∀ p, (s.tx.reportTimers.get p).running = false) ∧ ∀ n, (s.tx.statusTimers.get n).running = false

theorem PendingSound.kept {s : State} (sound : PendingSound s) : PendingKept s where
  list := {
    ordered := List.pairwise_map.2 sound.ordered
    distinct := List.pairwise_map.2 (sound.distinct.imp fun apart same => by
      rw [EntryKind.sameKey_eq_false_iff] at apart
      exact apart same)
    entries := fun e mem => ⟨sound.numbered e mem, sound.classes e mem, sound.inUse e mem,
      fun running => sound.rounds running e mem⟩
    answers := sound.answers
    next := fun lf held => by
      obtain ⟨place, holds, used, apart⟩ := sound.next lf held
      refine ⟨place, holds, used, fun mem => ?_⟩
      obtain ⟨e, mem, same⟩ := List.mem_map.1 mem
      exact apart e mem same
    reportTimers := fun p running => (sound.reportTimers p running).2
    statusTimers := fun n running => (sound.statusTimers n running).2 }
  silent := fun silent => by
    obtain ⟨next, entries⟩ := sound.empty silent
    exact ⟨next, entries, fun p => Bool.not_eq_true _ ▸ fun running => silent (sound.reportTimers p running).1,
      fun n => Bool.not_eq_true _ ▸ fun running => silent (sound.statusTimers n running).1⟩

theorem PendingKept.sound {s : State} (kept : PendingKept s) (lowest : nextIsLowest s.tx) : PendingSound s where
  ordered := List.pairwise_map.1 kept.list.ordered
  numbered := fun e mem => (kept.list.entries e mem).1
  distinct := (List.pairwise_map.1 kept.list.distinct).imp fun apart => EntryKind.sameKey_eq_false_iff.2 apart
  classes := fun e mem => (kept.list.entries e mem).2.1
  inUse := fun e mem => (kept.list.entries e mem).2.2.1
  answers := kept.list.answers
  rounds := fun running e mem => (kept.list.entries e mem).2.2.2 running
  next := fun lf held => by
    obtain ⟨place, holds, used, apart⟩ := kept.list.next lf held
    exact ⟨place, holds, used, fun e mem same => apart (List.mem_map.2 ⟨e, mem, same⟩)⟩
  lowest := lowest
  empty := fun silent => ⟨(kept.silent silent).1, (kept.silent silent).2.1⟩
  reportTimers := fun p running => by
    refine ⟨?_, kept.list.reportTimers p running⟩
    by_contra silent
    exact nomatch ((kept.silent silent).2.2.1 p).symm.trans running
  statusTimers := fun n running => by
    refine ⟨?_, kept.list.statusTimers n running⟩
    by_contra silent
    exact nomatch ((kept.silent silent).2.2.2 n).symm.trans running

/-! ### What leaves the pending list alone -/

/-- From `s` to `t` nothing has changed that the pending list is or rests on. -/
structure SamePending (s t : State) : Prop where
  mode : t.mode = s.mode
  config : t.config = s.config
  slots : ∀ n, (t.sections.get n).isSome = (s.sections.get n).isSome
  rounds : ∀ n, t.roundId n = s.roundId n
  entries : t.tx.entries = s.tx.entries
  place : t.tx.nextPlace = s.tx.nextPlace
  next : t.tx.next.map LayerFrame.entry = s.tx.next.map LayerFrame.entry
  reports : ∀ p, (t.tx.reportTimers.get p).running = (s.tx.reportTimers.get p).running
  statuses : ∀ n, (t.tx.statusTimers.get n).running = (s.tx.statusTimers.get n).running

namespace SamePending

theorem refl (s : State) : SamePending s s :=
  ⟨rfl, rfl, fun _ => rfl, fun _ => rfl, rfl, rfl, rfl, fun _ => rfl, fun _ => rfl⟩

/-- Other blocks write neither sections nor configuration. -/
theorem of_tx {s t : State} (mode : t.mode = s.mode) (config : t.config = s.config) (sections : t.sections = s.sections)
    (tx : t.tx = s.tx) : SamePending s t := by
  refine ⟨mode, config, fun n => by rw [sections], fun n => ?_, by rw [tx], by rw [tx], by rw [tx], fun p => by rw [tx],
    fun n => by rw [tx]⟩
  unfold State.roundId
  rw [sections]

theorem kept {s t : State} (same : SamePending s t) (kept : PendingKept s) : PendingKept t where
  list := by
    rw [State.concernsInUse_congr same.config same.slots, State.listed_congr same.mode same.rounds]
    exact kept.list.of_same same.entries same.place same.next same.reports same.statuses
  silent := fun silent => by
    rw [same.mode] at silent ⊢
    obtain ⟨next, entries, reports, statuses⟩ := kept.silent silent
    refine ⟨?_, by rw [same.entries]; exact entries, fun p => by rw [same.reports]; exact reports p,
      fun n => by rw [same.statuses]; exact statuses n⟩
    have none := same.next
    rw [next] at none
    exact Option.map_eq_none_iff.1 none

theorem lowest {s t : State} (same : SamePending s t) (lowest : nextIsLowest s.tx) : nextIsLowest t.tx := by
  intro lf held e mem
  obtain ⟨lf', held', entry⟩ := Option.map_eq_some_iff.1
    (same.next.symm.trans (congrArg (Option.map LayerFrame.entry) held))
  rw [← entry]
  exact lowest lf' held' e (same.entries ▸ mem)

theorem sound {s t : State} (same : SamePending s t) (sound : PendingSound s) : PendingSound t :=
  (same.kept sound.kept).sound (same.lowest sound.lowest)

end SamePending

/-- The start-up before RUNNING: nothing is pending, whatever the configuration becomes. -/
theorem PendingSound.of_silent {s t : State} (sound : PendingSound s) (running : s.mode ≠ .running)
    (halted : s.mode ≠ .halted) (tx : t.tx = s.tx) : PendingSound t := by
  obtain ⟨next, none, reports, statuses⟩ := sound.kept.silent running
  have entries : s.tx.entries = [] := none halted
  refine PendingKept.sound ⟨⟨?_, ?_, ?_, ?_, ?_, fun p h => ?_, fun n h => ?_⟩, fun _ => ?_⟩ ?_
  · rw [tx, entries]; exact .nil
  · rw [tx, entries]; exact .nil
  · rw [tx, entries]; exact fun _ h => nomatch h
  · rw [tx]; exact sound.answers
  · rw [tx, next]; exact fun _ h => nomatch h
  · rw [tx, reports] at h; cases h
  · rw [tx, statuses] at h; cases h
  · rw [tx]; exact ⟨next, fun _ => entries, reports, statuses⟩
  · unfold nextIsLowest
    rw [tx, next]
    exact fun _ h => nomatch h

/-! ### What falls due, at the state (R43 to R45, R66, R133 to R135) -/

namespace Transmitter.ListSound

variable {inUse listed : EntryKind → Prop} {s : State}

theorem pointChangeDue (sound : s.tx.ListSound inUse listed) {p : PointIndex} (used : inUse (.report p))
    (listed' : listed (.report p)) : (s.pointChangeDue p).tx.ListSound inUse listed := by
  unfold State.pointChangeDue
  split
  · have due : (s.tx.reportDue p .change).ListSound inUse listed :=
      sound.hold (kind := .report p) (changeClass := 3) (periodicClass := 5)
        (fun k => by rw [EntryKind.isReport_iff, ← keyOf_eq_report_iff]; rfl) (Or.inl rfl) (Or.inr rfl) used listed' rfl
        .change
    refine refreshed (s := s.withTx (s.tx.reportDue p .change)) due fun kind cls carries holds => ?_
    · cases kind with
      | report q => exact .inl rfl
      | answer requester n q tag => exact holds
      | status n | request n id tag => cases carries
  · exact sound

theorem sectionChangeDue (sound : s.tx.ListSound inUse listed) {n : Slot} (used : inUse (.status n))
    (listed' : listed (.status n)) : (s.sectionChangeDue n).tx.ListSound inUse listed := by
  unfold State.sectionChangeDue
  split
  · have due : (s.tx.statusDue n .change).ListSound inUse listed :=
      sound.hold (kind := .status n) (changeClass := 4) (periodicClass := 6)
        (fun k => by rw [EntryKind.isStatus_iff, ← keyOf_eq_status_iff]; rfl) (Or.inl rfl) (Or.inr rfl) used listed' rfl
        .change
    refine refreshed (s := s.withTx (s.tx.statusDue n .change)) due fun kind cls status holds => ?_
    · rw [EntryKind.isStatus_iff.1 status]
      exact .inl rfl
  · exact sound

end Transmitter.ListSound

theorem State.setSection_roundId_same (s : State) (n : Slot) (sec : Section) :
    (s.setSection n sec).roundId n = sec.round.map Round.id := by
  simp [State.roundId]

theorem State.setSection_roundId_other (s : State) {n m : Slot} (sec : Section) (h : m ≠ n) :
    (s.setSection n sec).roundId m = s.roundId m := by
  simp [State.roundId, Table.get_set_other _ _ h]

/-- The round that was open is open no more. -/
theorem roundEnded_iff (before after : Section) :
    roundEnded before after = true ↔
      ∃ id, before.round.map Round.id = some id ∧ after.round.map Round.id ≠ some id := by
  unfold roundEnded
  cases before.round <;> simp

theorem openedRound_eq_some {before after : Section} {r : Round} (h : openedRound before after = some r) :
    after.round = some r ∧ before.round.map Round.id ≠ some r.id := by
  unfold openedRound at h
  cases round : after.round with
  | none => rw [round] at h; cases h
  | some r' =>
    rw [round] at h
    dsimp only at h
    split at h
    · cases h
    · obtain rfl := Option.some.inj h
      exact ⟨rfl, ‹_›⟩

/-- The pending list follows the round of a slot (R133, R134). -/
theorem Transmitter.ListSound.followRound {s : State} {n : Slot} {before : Section}
    (slot : s.sections.get n = some before) (running : s.mode = .running)
    (sound : s.tx.ListSound s.concernsInUse s.listed) (after : Section) :
    ((s.setSection n after).followRound n before after).tx.ListSound s.concernsInUse (s.setSection n after).listed := by
  have open' (kind : EntryKind) (before' : s.listed kind)
      (ended : roundEnded before after = true → kind.isRequest n = false) : (s.setSection n after).listed kind := by
    intro _
    cases kind with
    | request m id tag =>
      have was := State.roundOpen_request.1 (before' running)
      refine State.roundOpen_request.2 ?_
      by_cases here : m = n
      · subst here
        rw [State.setSection_roundId_same]
        by_contra closed
        have round : before.round.map Round.id = some id := by simpa [State.roundId, slot] using was
        exact nomatch (ended ((roundEnded_iff _ _).2 ⟨id, round, closed⟩)).symm.trans (beq_self_eq_true m)
      · rw [State.setSection_roundId_other _ _ here]
        exact was
    | report p | status m | answer requester m p tag => rfl
  have dropped : (if roundEnded before after then s.tx.dropRequest n else s.tx).ListSound s.concernsInUse
      (s.setSection n after).listed := by
    split
    · rename_i ended
      refine (sound.sublist List.filter_sublist).mono (fun _ used => used) fun e mem was => open' _ was fun _ => ?_
      exact Bool.not_eq_true' _ ▸ (List.mem_filter.1 mem).2
    · rename_i kept
      exact sound.mono (fun _ used => used) fun e mem was => open' _ was fun ended => absurd ended kept
  unfold State.followRound
  dsimp only [State.withTx_tx, State.setSection_tx]
  cases opened : openedRound before after with
  | none => exact dropped
  | some r =>
    obtain ⟨round, new⟩ := openedRound_eq_some opened
    refine dropped.append (fun mem => ?_) rfl (by simp [State.concernsInUse, slot]) (fun _ => ?_)
      fun answer => (nomatch answer)
    · obtain ⟨e, mem, key⟩ := List.mem_map.1 mem
      have request : e.kind.isRequest n = true := EntryKind.isRequest_iff.2 key
      have still := (dropped.entries e mem).2.2.2 running
      split at mem
      · have other := (List.mem_filter.1 mem).2
        rw [request] at other
        cases other
      · have was := (sound.entries e mem).2.2.2 running
        cases kind : e.kind with
        | request m id tag =>
          rw [kind] at request was still
          obtain rfl : m = n := beq_iff_eq.1 request
          have now := State.roundOpen_request.1 still
          rw [State.setSection_roundId_same, round] at now
          have then' := State.roundOpen_request.1 was
          rw [State.roundId, slot, ← now] at then'
          exact new then'
        | report p | status m | answer requester m p tag => rw [kind] at request; cases request
    · rw [State.roundOpen_request, State.setSection_roundId_same, round]
      rfl

end Sys2Proof.Machine

namespace Sys2Proof.Machine

open Sys2Proof.Claims

/-! ### The pending list through an evaluation of a section -/

/-- Outside RUNNING every section is DISTURBED and no round is open (R118, R129, R131). -/
def SectionsRest (s : State) : Prop :=
  s.mode ≠ .running → ∀ n, ∀ sec ∈ s.sections.get n, sec.state = .disturbed ∧ sec.round = none

theorem SectionsKept.rest {s : State} (kept : SectionsKept s) : SectionsRest s := fun silent n sec slot => by
  have state := kept.disturbed silent n sec slot
  refine ⟨state, Option.not_isSome_iff_eq_none.1 fun round => ?_⟩
  exact nomatch state.symm.trans ((kept.shape n sec slot).round.1 round)

/-- An evaluation that leaves a DISTURBED section without a round so. -/
def KeepsRest (f : Section → Section) : Prop :=
  ∀ sec, sec.state = .disturbed → sec.round = none → (f sec).state = .disturbed ∧ (f sec).round = none

/-- A DISTURBED section follows its sources alone (R109, R120). -/
theorem State.evaluateSection_of_disturbed (s : State) (notice : Option DisturbanceCause) (src : TermSource)
    {sec : Section} (disturbed : sec.state = .disturbed) :
    ∃ terms, s.evaluateSection notice src sec = { sec with terms := terms } := by
  cases view : s.source src with
  | none => exact ⟨sec.terms, State.evaluateSection_absent view notice sec⟩
  | some v =>
    have counts : sec.takeCounts notice src v = sec := by
      unfold Section.takeCounts
      rw [disturbed]
    have event : sec.takeEvent notice src v = { sec with terms := sec.terms.map (Term.follow src v) } := by
      unfold Section.takeEvent Section.stateOutcome
      rw [counts]
      simp only [disturbed]
    refine ⟨sec.terms.map (Term.follow src v), ?_⟩
    unfold State.evaluateSection
    rw [view]
    exact (congrArg s.settleTest event).trans (s.settleTest_of_state (.inl disturbed))

theorem State.reach_keepsRest (s : State) (notice : Option DisturbanceCause) (src : TermSource) :
    KeepsRest fun sec => if sec.uses src then s.evaluateSection notice src sec else sec := by
  intro sec disturbed round
  dsimp only
  split
  · obtain ⟨terms, e⟩ := s.evaluateSection_of_disturbed notice src disturbed
    rw [e]
    exact ⟨disturbed, round⟩
  · exact ⟨disturbed, round⟩

/-- Outside RUNNING an evaluation that leaves the section at rest reaches the transmitter with nothing (R134, R169). -/
theorem State.applySection_tx_of_silent {s : State} (silent : s.mode ≠ .running) (rest : SectionsRest s) (n : Slot)
    {f : Section → Section} (keeps : KeepsRest f) : (s.applySection n f).tx = s.tx := by
  unfold State.applySection
  cases slot : s.sections.get n with
  | none => rfl
  | some sec =>
    obtain ⟨disturbed, round⟩ := rest silent n sec slot
    have round' := (keeps sec disturbed round).2
    have followed : ((s.setSection n (f sec)).followRound n sec (f sec)).tx = s.tx := by
      unfold State.followRound roundEnded openedRound
      rw [round, round']
      rfl
    dsimp only
    split
    · unfold State.handOn State.sectionChangeDue
      rw [if_neg (by exact silent)]
      exact followed
    · exact followed

theorem SectionsRest.applySection {s : State} (rest : SectionsRest s) (n : Slot) {f : Section → Section}
    (keeps : s.mode ≠ .running → KeepsRest f) : SectionsRest (s.applySection n f) := by
  intro silent m sec slot
  rw [State.applySection_mode] at silent
  by_cases here : m = n
  · rw [here, State.applySection_get_same] at slot
    obtain ⟨before, held, rfl⟩ := Option.map_eq_some_iff.1 slot
    obtain ⟨disturbed, round⟩ := rest silent n before held
    exact keeps silent before disturbed round
  · rw [State.applySection_get_other _ _ here] at slot
    exact rest silent m sec slot

/-- The slots in use stay so through an evaluation (R105). -/
theorem State.applySection_slots (s : State) (n : Slot) (f : Section → Section) (m : Slot) :
    ((s.applySection n f).sections.get m).isSome = (s.sections.get m).isSome := by
  by_cases here : m = n
  · rw [here, State.applySection_get_same, Option.isSome_map]
  · rw [State.applySection_get_other _ _ here]

theorem State.applySection_concernsInUse (s : State) (n : Slot) (f : Section → Section) :
    (s.applySection n f).concernsInUse = s.concernsInUse :=
  State.concernsInUse_congr (s.applySection_config n f) (s.applySection_slots n f)

/-- The pending list within a command, with the sections it follows. -/
structure PendingFollow (s : State) : Prop where
  kept : PendingKept s
  rest : SectionsRest s

namespace PendingFollow

theorem of_same {s t : State} (follow : PendingFollow s) (same : SamePending s t) (sections : t.sections = s.sections) :
    PendingFollow t :=
  ⟨same.kept follow.kept, by unfold SectionsRest; rw [same.mode, sections]; exact follow.rest⟩

theorem withRx {s : State} (follow : PendingFollow s) (x : Receiver) : PendingFollow (s.withRx x) :=
  follow.of_same (.of_tx rfl rfl rfl rfl) rfl

theorem setLine {s : State} (follow : PendingFollow s) (n : Slot) (l : ClearLine) : PendingFollow (s.setLine n l) :=
  follow.of_same (.of_tx rfl rfl rfl rfl) rfl

theorem setMirror {s : State} (follow : PendingFollow s) (m : EntryIndex) (e : MirrorEntry) :
    PendingFollow (s.setMirror m e) := follow.of_same (.of_tx rfl rfl rfl rfl) rfl

/-- In RUNNING the list is all that matters. -/
theorem withTx {s : State} (follow : PendingFollow s) (running : s.mode = .running) {x : Transmitter}
    (list : x.ListSound s.concernsInUse s.listed) : PendingFollow (s.withTx x) :=
  ⟨⟨list, fun silent => absurd running silent⟩, follow.rest⟩

theorem applySection_running {s : State} (kept : PendingKept s) (running : s.mode = .running) (n : Slot)
    (f : Section → Section) : PendingKept (s.applySection n f) := by
  refine ⟨?_, fun silent => absurd ((s.applySection_mode n f).trans running) silent⟩
  rw [State.applySection_concernsInUse]
  cases slot : s.sections.get n with
  | none =>
    have unused : s.applySection n f = s := by
      unfold State.applySection
      rw [slot]
    rw [unused]
    exact kept.list
  | some sec =>
    have followed := kept.list.followRound slot running (f sec)
    have listed : (s.applySection n f).listed = (s.setSection n (f sec)).listed := by
      refine State.listed_congr (s.applySection_mode n f) fun m => ?_
      unfold State.roundId
      rw [State.applySection_sections, slot]
      rfl
    have used : s.concernsInUse (.status n) := by simp [State.concernsInUse, slot]
    rw [listed]
    unfold State.applySection
    rw [slot]
    dsimp only
    split
    · exact followed.sectionChangeDue used (State.listed_of_not_request _ nofun)
    · exact followed

theorem applySection {s : State} (follow : PendingFollow s) (n : Slot) {f : Section → Section}
    (keeps : s.mode ≠ .running → KeepsRest f) : PendingFollow (s.applySection n f) := by
  have rest := follow.rest.applySection n keeps
  by_cases running : s.mode = .running
  · exact ⟨applySection_running follow.kept running n f, rest⟩
  · have tx := State.applySection_tx_of_silent running follow.rest n (keeps running)
    have closed {t : State} (mode : t.mode = s.mode) (rest : SectionsRest t) (m : Slot) : t.roundId m = none := by
      rw [← mode] at running
      unfold State.roundId
      cases slot : t.sections.get m with
      | none => rfl
      | some sec => simp [(rest running m sec slot).2]
    refine ⟨SamePending.kept ⟨s.applySection_mode n f, s.applySection_config n f, s.applySection_slots n f,
      fun m => ?_, ?_, ?_, ?_, fun p => ?_, fun m => ?_⟩ follow.kept, rest⟩
    · rw [closed (s.applySection_mode n f) rest, closed rfl follow.rest]
    all_goals rw [tx]

theorem reachSection {s : State} (follow : PendingFollow s) (n : Slot) (notice : Option DisturbanceCause)
    (src : TermSource) : PendingFollow (s.reachSection n notice src) :=
  follow.applySection n fun _ => s.reach_keepsRest notice src

theorem notifySections {s : State} (follow : PendingFollow s) (notice : Option DisturbanceCause) (m : EntryIndex) :
    PendingFollow (s.notifySections notice m) := by
  unfold State.notifySections
  exact List.foldlRecOn (motive := fun t : State => PendingFollow t) allSlots _ follow
    fun t kept n _ => kept.reachSection n notice (.mirror m)

theorem present {s : State} (follow : PendingFollow s) (source : Station) (c : PointContent) :
    PendingFollow (s.present source c) := by
  unfold State.present
  split
  · exact follow
  · rename_i m _
    rcases s.presentAt_cases m c with ⟨_, e⟩ | ⟨held, slot, ⟨_, e⟩ | ⟨v, _, e⟩⟩ <;> rw [e]
    · exact follow
    · exact follow.setMirror m _
    · exact (follow.setMirror m _).notifySections _ _

end PendingFollow

/-! ### Loading and preemption (R67, R68, R71) -/

theorem nextIsLowest_of_empty {t : Transmitter} (empty : t.next = none) : nextIsLowest t :=
  fun _ held => nomatch empty.symm.trans held

/-- A load leaves nothing below the class of what it loads (R68). -/
theorem State.loadNext_lowest {s : State} (empty : s.tx.next = none) : nextIsLowest s.loadNext.tx := by
  rcases s.loadNext_cases with ⟨_, e⟩ | ⟨e, found, loaded⟩
  · rw [e]
    exact nextIsLowest_of_empty empty
  · rw [loaded]
    intro lf held g mem
    obtain ⟨f, _, rfl⟩ := Option.map_eq_some_iff.1 held
    exact (earliestLowest_spec found).2 g (List.mem_filter.1 mem).1

/-- The transmitter once the next layer's frame has given way (R67). -/
def State.givenWay (s : State) (lf : LayerFrame) : Transmitter :=
  if s.roundOpen lf.entry.kind then ({ s.tx with next := none } : Transmitter).takeBack lf.entry
  else { s.tx with next := none }

theorem State.givenWay_keeps (s : State) (lf : LayerFrame) :
    s.givenWay lf = { s.tx with next := none, entries := (s.givenWay lf).entries } := by
  unfold State.givenWay
  split
  · rw [Transmitter.takeBack_keeps]
  · rfl

theorem State.givenWay_next (s : State) (lf : LayerFrame) : (s.givenWay lf).next = none := by
  rw [State.givenWay_keeps]

/-- Preemption: the next layer holds the lowest class already, or its frame gives way and the layer is loaded (R71). -/
theorem State.preempt_cases (s : State) :
    ((s.mode = .running → nextIsLowest s.tx) ∧ s.preempt = s) ∨
      ∃ lf, s.mode = .running ∧ s.tx.next = some lf ∧ s.tx.preempts lf = true ∧
        s.preempt = (s.withTx (s.givenWay lf)).loadNext := by
  unfold State.preempt
  cases held : s.tx.next with
  | none => exact .inl ⟨fun _ => nextIsLowest_of_empty held, rfl⟩
  | some lf =>
    by_cases due : s.mode = .running ∧ s.tx.preempts lf = true
    · exact .inr ⟨lf, due.1, rfl, due.2, if_pos due⟩
    · refine .inl ⟨fun running lf' held' e mem => ?_, if_neg due⟩
      obtain rfl := Option.some.inj (held.symm.trans held')
      by_contra lower
      exact due ⟨running, List.any_eq_true.2 ⟨e, mem, decide_eq_true (Nat.not_le.1 lower)⟩⟩

/-- After preemption the next layer holds the lowest class (R71). -/
theorem State.preempt_lowest {s : State} (running : s.mode = .running) : nextIsLowest s.preempt.tx := by
  rcases s.preempt_cases with ⟨lowest, e⟩ | ⟨lf, _, _, _, e⟩ <;> rw [e]
  · exact lowest running
  · exact State.loadNext_lowest (s.givenWay_next lf)

theorem PendingKept.loadNext {s : State} (kept : PendingKept s) (running : s.mode = .running)
    (empty : s.tx.next = none) : PendingKept s.loadNext := by
  unfold State.loadNext
  cases found : earliestLowest s.tx.entries with
  | none => exact kept
  | some e =>
    have mem := (earliestLowest_spec found).1
    refine ⟨?_, fun silent => absurd running silent⟩
    exact (kept.list.load empty mem (s.buildFrame e)).restartTimer (kept.list.entries e mem).2.2.1

/-- Where a frame gives way the list takes its entry back, unless its round has closed (R67). -/
theorem PendingKept.givenWay {s : State} (kept : PendingKept s) {lf : LayerFrame} (held : s.tx.next = some lf) :
    (s.givenWay lf).ListSound s.concernsInUse s.listed := by
  unfold State.givenWay
  split
  · rename_i opened
    exact kept.list.takeBack held fun _ => opened
  · exact kept.list.emptied

/-- What preemption leaves is sound (R67, R71). -/
theorem PendingKept.preempt {s : State} (kept : PendingKept s) : PendingSound s.preempt := by
  refine PendingKept.sound ?_ ?_
  · rcases s.preempt_cases with ⟨_, e⟩ | ⟨lf, running, held, _, e⟩ <;> rw [e]
    · exact kept
    · exact PendingKept.loadNext ⟨kept.givenWay held, fun silent => absurd running silent⟩ running (s.givenWay_next lf)
  · by_cases running : s.mode = .running
    · exact State.preempt_lowest running
    · rcases s.preempt_cases with ⟨_, e⟩ | ⟨_, due, _⟩
      · rw [e]
        exact nextIsLowest_of_empty (kept.silent running).1
      · exact absurd due running

theorem PendingSound.driveAttn {s : State} (sound : PendingSound s) : PendingSound s.driveAttn :=
  SamePending.sound (s := s) (.of_tx rfl rfl rfl rfl) sound

theorem PendingFollow.preempt_driveAttn {s : State} (follow : PendingFollow s) : PendingSound s.preempt.driveAttn :=
  follow.kept.preempt.driveAttn

end Sys2Proof.Machine

namespace Sys2Proof.Machine

open Sys2Proof.Claims

/-! ### The pending list at a sweep completion -/

/-- Only a point in use changes at a completion (R37). -/
theorem changedPoints_inUse {s : State} {r : Results} {p : PointIndex}
    (changed : p ∈ changedPoints s (s.sweepFront r).sweepRecords) : s.pointInUse p = true := by
  have moved := (List.mem_filter.1 changed).2
  by_contra unused
  have config : (s.sweepFront r).pointConfig p = none := State.pointConfig_of_unused (Bool.not_eq_true _ ▸ unused)
  rw [State.sweepRecords_get, State.evaluatedRecord, config, pointChanged_iff] at moved
  simp [recordChanged] at moved

namespace PendingFollow

theorem pointChangeDue {s : State} (follow : PendingFollow s) {p : PointIndex} (used : s.pointInUse p = true) :
    PendingFollow (s.pointChangeDue p) := by
  by_cases running : s.mode = .running
  · rw [State.pointChangeDue_eq]
    exact follow.withTx running (follow.kept.list.pointChangeDue used (State.listed_of_not_request _ nofun))
  · have silent : s.pointChangeDue p = s := if_neg running
    rw [silent]
    exact follow

/-- A completion up to its reports. -/
theorem reportedSweep {s : State} (follow : PendingFollow s) (r : Results) : PendingFollow (s.reportedSweep r) := by
  have swept : PendingFollow (s.sweepFront r).sweepRecords := follow.of_same (.of_tx rfl rfl rfl rfl) rfl
  exact (List.foldlRecOn (motive := fun t : State => PendingFollow t ∧ t.config = s.config)
    (changedPoints s (s.sweepFront r).sweepRecords) State.pointChangeDue ⟨swept, rfl⟩ fun t kept p changed =>
      ⟨kept.1.pointChangeDue (by rw [State.pointInUse_congr kept.2]; exact changedPoints_inUse changed),
        (t.pointChangeDue_config p).trans kept.2⟩).1

end PendingFollow

/-- What every slot's part keeps, the slots of a completion keep. -/
theorem State.sweep_preserves {s : State} {r : Results} {P : State → Prop} (start : P (s.reportedSweep r))
    (reach : ∀ t n p, P t → P (t.reachSection n none (.localPoint p))) (line : ∀ t n l, P t → P (t.setLine n l))
    (draw : ∀ t draws, P t → P { t with draws := draws }) : P (s.sweep r) :=
  draw _ _ (List.foldlRecOn (motive := P) allSlots _ start fun _ kept n _ =>
    State.sweepSlot_preserves (fun t p => reach t n p) (fun t l => line t n l) _ _ kept)

/-- A completion up to its preemption. -/
theorem PendingFollow.sweep {s : State} (follow : PendingFollow s) (r : Results) : PendingFollow (s.sweep r) :=
  State.sweep_preserves (P := PendingFollow) (follow.reportedSweep r)
    (fun _ n p kept => kept.reachSection n none (.localPoint p)) (fun _ n l kept => kept.setLine n l)
    fun _ _ kept => kept.of_same (.of_tx rfl rfl rfl rfl) rfl

theorem PendingSound.completeSweep {s : State} (sound : PendingSound s) (rest : SectionsRest s) (r : Results) :
    PendingSound (s.completeSweep r) := by
  unfold State.completeSweep
  split
  · exact (PendingFollow.sweep ⟨sound.kept, rest⟩ r).preempt_driveAttn
  · exact sound

/-! ### The pending list at the transmitter's own commands -/

/-- The transmitter's other doings leave the list, the numbering, the next entry and the timers alone. -/
theorem SamePending.withTx (s : State) {x : Transmitter} (entries : x.entries = s.tx.entries)
    (place : x.nextPlace = s.tx.nextPlace) (next : x.next.map LayerFrame.entry = s.tx.next.map LayerFrame.entry)
    (timers : x.reportTimers = s.tx.reportTimers ∧ x.statusTimers = s.tx.statusTimers) : SamePending s (s.withTx x) :=
  ⟨rfl, rfl, fun _ => rfl, fun _ => rfl, entries, place, next, fun p => by rw [State.withTx_tx, timers.1],
    fun n => by rw [State.withTx_tx, timers.2]⟩

theorem SamePending.trans {s t u : State} (first : SamePending s t) (second : SamePending t u) : SamePending s u where
  mode := second.mode.trans first.mode
  config := second.config.trans first.config
  slots := fun n => (second.slots n).trans (first.slots n)
  rounds := fun n => (second.rounds n).trans (first.rounds n)
  entries := second.entries.trans first.entries
  place := second.place.trans first.place
  next := second.next.trans first.next
  reports := fun p => (second.reports p).trans (first.reports p)
  statuses := fun n => (second.statuses n).trans (first.statuses n)

/-- A refresh that leaves the class leaves the entry (R49). -/
theorem SamePending.refresh (s : State) (concerns : EntryKind → Bool) :
    SamePending s (s.refresh concerns sameClass) := by
  refine .withTx s rfl rfl ((s.refreshLayer_entry _ _ _).trans (Option.map_congr fun lf _ => ?_)) ⟨rfl, rfl⟩
  exact ite_self lf.entry

theorem SamePending.spendStart (s : State) (f : Frame) : SamePending s (s.spendStart f) := by
  have spent (p : PointIndex) : SamePending s (s.spend p) := .withTx s rfl rfl rfl ⟨rfl, rfl⟩
  rcases s.spendStart_cases f with ⟨_, e⟩ | ⟨p, _, ⟨_, e⟩ | ⟨_, e⟩⟩ <;> rw [e]
  · exact .refl s
  · exact (spent p).trans (.refresh _ _)
  · exact spent p

theorem SamePending.completeFrame (s : State) (lf : LayerFrame) : SamePending s (s.completeFrame lf) := by
  rw [State.completeFrame_eq]
  refine SamePending.trans (t := s.sentFrame lf) ?_ (.spendStart _ _)
  unfold State.sentFrame
  dsimp only
  split
  · exact (SamePending.withTx s (x := { s.tx with state := .quiet, failures := 0, live := none }) rfl rfl rfl
      ⟨rfl, rfl⟩).trans (.of_tx rfl rfl rfl rfl)
  · exact .withTx s rfl rfl rfl ⟨rfl, rfl⟩

/-- Time passes: the timers run on, and the rounds stay what they are. -/
theorem SamePending.tick (s : State) : SamePending s s.tick where
  mode := rfl
  config := rfl
  slots := fun n => by simp [State.tick]
  rounds := fun n => by
    unfold State.roundId
    rw [State.tick, Table.get_map]
    cases s.sections.get n with
    | none => rfl
    | some sec => cases round : sec.round <;> simp [Section.tick, round]
  entries := rfl
  place := rfl
  next := rfl
  reports := fun p => by
    rw [State.tick, Transmitter.tick, Table.get_map, Timer.tick]
    split <;> rfl
  statuses := fun n => by
    rw [State.tick, Transmitter.tick, Table.get_map, Timer.tick]
    split <;> rfl

theorem PendingSound.idleStep {s : State} (sound : PendingSound s) : PendingSound s.idleStep := by
  unfold State.idleStep
  split
  · exact SamePending.sound (s := s) (.of_tx rfl rfl rfl rfl) sound
  · exact (SamePending.tick s).sound sound

/-- A move empties the next layer (R69). -/
theorem PendingSound.move {s : State} (sound : PendingSound s) (running : s.mode = .running) :
    PendingSound (s.withTx s.tx.move) :=
  PendingKept.sound ⟨sound.kept.list.emptied.of_same rfl rfl rfl (fun _ => rfl) fun _ => rfl,
    fun silent => absurd running silent⟩ fun _ held => nomatch held

/-- A periodic cause falls due in RUNNING alone, and holds its timer still until it is taken up (R42, R170). -/
theorem PendingKept.expireReport {s : State} (kept : PendingKept s) (running : s.mode = .running) {p : PointIndex}
    (timer : (s.tx.reportTimers.get p).running = true) : PendingKept (s.withTx (s.tx.expireReport p)) := by
  have used := kept.list.reportTimers p timer
  have timed (x : Timer) : ({ s.tx with reportTimers := s.tx.reportTimers.set p x } : Transmitter).ListSound
      s.concernsInUse s.listed := by
    have list := kept.list
    refine ⟨list.ordered, list.distinct, list.entries, list.answers, list.next, fun q runs => ?_, list.statusTimers⟩
    by_cases here : q = p
    · exact here ▸ used
    · exact list.reportTimers q (by rwa [Table.get_set_other _ _ here] at runs)
  refine ⟨(timed _).hold (kind := .report p) (changeClass := 3) (periodicClass := 5) (fun k => ?_) (Or.inl rfl)
    (Or.inr rfl) used (State.listed_of_not_request _ nofun) rfl .periodic, fun silent => absurd running silent⟩
  rw [EntryKind.isReport_iff, ← keyOf_eq_report_iff]
  rfl

theorem PendingKept.expireStatus {s : State} (kept : PendingKept s) (running : s.mode = .running) {n : Slot}
    (timer : (s.tx.statusTimers.get n).running = true) : PendingKept (s.withTx (s.tx.expireStatus n)) := by
  have used := kept.list.statusTimers n timer
  have timed (x : Timer) : ({ s.tx with statusTimers := s.tx.statusTimers.set n x } : Transmitter).ListSound
      s.concernsInUse s.listed := by
    have list := kept.list
    refine ⟨list.ordered, list.distinct, list.entries, list.answers, list.next, list.reportTimers, fun m runs => ?_⟩
    by_cases here : m = n
    · exact here ▸ used
    · exact list.statusTimers m (by rwa [Table.get_set_other _ _ here] at runs)
  refine ⟨(timed _).hold (kind := .status n) (changeClass := 4) (periodicClass := 6) (fun k => ?_) (Or.inl rfl)
    (Or.inr rfl) used (State.listed_of_not_request _ nofun) rfl .periodic, fun silent => absurd running silent⟩
  rw [EntryKind.isStatus_iff, ← keyOf_eq_status_iff]
  rfl

/-! ### The pending list at the entry to HALTED (R134, R182) -/

/-- The list that HALTED finds: statuses of disturbed sections may have joined it. -/
theorem PendingKept.haltedSections {s : State} (kept : PendingKept s) :
    (allSlots.foldl State.haltSection s).tx.ListSound s.concernsInUse fun _ => True := by
  have start : s.tx.ListSound s.concernsInUse fun _ => True := kept.list.mono (fun _ used => used) fun _ _ _ => trivial
  refine (List.foldlRecOn (motive := fun t : State =>
      t.concernsInUse = s.concernsInUse ∧ t.tx.ListSound s.concernsInUse fun _ => True) allSlots State.haltSection
    ⟨rfl, start⟩ fun t ih n _ => ⟨?_, ?_⟩).2
  · rw [← ih.1]
    refine State.concernsInUse_congr (t.haltSection_config n) fun m => ?_
    have slot := foldl_haltSection_get [n] t m
    rw [List.foldl_cons, List.foldl_nil] at slot
    rw [slot]
    split
    · exact Option.isSome_map
    · rfl
  · unfold State.haltSection
    cases slot : t.sections.get n with
    | none => exact ih.2
    | some sec =>
      dsimp only
      split
      · have used : s.concernsInUse (.status n) := by
          rw [← ih.1]
          simp [State.concernsInUse, slot]
        exact Transmitter.ListSound.sectionChangeDue (s := t.setSection n (sec.disturb .halt)) ih.2 used trivial
      · exact ih.2

/-- The transmitter's stop drops the next layer and stops the timers (R42, R79, R170). -/
theorem Transmitter.ListSound.halt {inUse listed : EntryKind → Prop} {t : Transmitter}
    (sound : t.ListSound inUse listed) : t.halt.ListSound inUse listed := by
  have list := sound.emptied
  refine ⟨list.ordered, list.distinct, list.entries, list.answers, fun _ held => (nomatch held), fun p running => ?_,
    fun n running => ?_⟩
  · rw [Transmitter.halt, Table.get_map] at running
    cases running
  · rw [Transmitter.halt, Table.get_map] at running
    cases running

/-- Nothing is loaded in HALTED, and the list stays (R134). -/
theorem PendingKept.enterHalted {s : State} (kept : PendingKept s) (halted : s.mode ≠ .halted) (cause : HaltCause) :
    PendingSound (s.enterHalted cause) := by
  have mode := (State.enterHalted_mode halted cause).1
  have tx : (s.enterHalted cause).tx = (allSlots.foldl State.haltSection s).tx.halt := by
    rw [State.enterHalted, if_neg halted]
    rfl
  have use : (s.enterHalted cause).concernsInUse = s.concernsInUse :=
    State.concernsInUse_congr (by rw [State.enterHalted_eq halted]) fun n => by
      rw [State.enterHalted_get halted, Option.isSome_map]
  have list := kept.haltedSections.halt
  rw [← tx] at list
  generalize (allSlots.foldl State.haltSection s).tx = x at tx
  refine PendingKept.sound ⟨?_, fun _ => ⟨by rw [tx]; rfl, fun h => absurd mode h, fun p => ?_, fun n => ?_⟩⟩ ?_
  · rw [use]
    exact list.mono (fun _ used => used) fun _ _ _ running => nomatch mode.symm.trans running
  · rw [tx, Transmitter.halt, Table.get_map]
    rfl
  · rw [tx, Transmitter.halt, Table.get_map]
    rfl
  · rw [tx]
    exact fun _ held => nomatch held

end Sys2Proof.Machine

namespace Sys2Proof.Machine

open Sys2Proof.Claims

/-! ### The pending list at the entry to RUNNING (R47, R171) -/

/-- Entries of fresh and distinct keys, appended one after another. -/
theorem Transmitter.ListSound.appendAll {inUse listed : EntryKind → Prop} {α : Type} (kind : α → EntryKind) (cls : Nat)
    {l : List α} {t : Transmitter} (sound : t.ListSound inUse listed)
    (fresh : ∀ a ∈ l, keyOf (kind a) ∉ t.entries.map Entry.key) (distinct : (l.map fun a => keyOf (kind a)).Nodup)
    (ok : ∀ a ∈ l, (kind a).mayHold cls ∧ inUse (kind a) ∧ listed (kind a) ∧ (kind a).isAnswer = false) :
    (l.foldl (fun u a => u.append (kind a) cls) t).ListSound inUse listed := by
  induction l generalizing t with
  | nil => exact sound
  | cons a l ih =>
    obtain ⟨first, distinct⟩ := List.nodup_cons.1 distinct
    obtain ⟨holds, used, listed', noAnswer⟩ := ok a (.head _)
    refine ih (sound.append (fresh a (.head _)) holds used listed' fun answer => (nomatch noAnswer.symm.trans answer))
      (fun b mem => ?_) distinct fun b mem => ok b (.tail _ mem)
    simp only [Transmitter.append, List.map_append, List.map_cons, List.map_nil, List.mem_append, List.mem_singleton,
      not_or]
    exact ⟨fresh b (.tail _ mem), fun same => first (List.mem_map.2 ⟨b, mem, same⟩)⟩

theorem foldl_append_keys {α : Type} (kind : α → EntryKind) (cls : Nat) (l : List α) (t : Transmitter) :
    (l.foldl (fun u a => u.append (kind a) cls) t).entries.map Entry.key =
      t.entries.map Entry.key ++ l.map fun a => keyOf (kind a) := by
  have entries := congrArg (List.map fun e : EntryKind × Nat => keyOf e.1) (foldl_append_entries kind cls l t).2
  rw [List.map_append, List.map_map, List.map_map, List.map_map] at entries
  exact entries

/-- The part enters RUNNING with a report for each point and a status for each slot in use (R47, R171, R181). -/
theorem PendingSound.enterRunning {s : State} (sound : PendingSound s) (running : s.mode ≠ .running)
    (halted : s.mode ≠ .halted) : PendingSound s.enterRunning := by
  obtain ⟨next, drained, _, _⟩ := sound.kept.silent running
  have entries : s.tx.entries = [] := drained halted
  have start : s.tx.ListSound s.concernsInUse s.enterRunning.listed :=
    sound.kept.list.mono (fun _ used => used) fun e mem _ => by
      rw [entries] at mem
      cases mem
  have reports := start.appendAll EntryKind.report 3 (l := allPoints.filter s.pointInUse)
    (fun p _ => by rw [entries]; exact List.not_mem_nil)
    ((List.Nodup.filter _ (by decide)).map fun _ _ same => by injection same)
    fun p mem => ⟨.inl rfl, (List.mem_filter.1 mem).2, State.listed_of_not_request _ nofun, rfl⟩
  have list := reports.appendAll EntryKind.status 4 (l := allSlots.filter fun n => (s.sections.get n).isSome)
    (fun n _ mem => by
      rw [foldl_append_keys, entries, List.map_nil, List.nil_append] at mem
      obtain ⟨p, _, same⟩ := List.mem_map.1 mem
      cases same)
    ((List.Nodup.filter _ (by decide)).map fun _ _ same => by injection same)
    fun n mem => ⟨.inl rfl, (List.mem_filter.1 mem).2, State.listed_of_not_request _ nofun, rfl⟩
  have empty : s.runningEntries.next = none := by rw [s.runningEntries_eq.1, next]
  change s.runningEntries.ListSound s.concernsInUse s.enterRunning.listed at list
  refine PendingKept.sound ⟨⟨list.ordered, list.distinct, list.entries, list.answers, list.next, fun p timer => ?_,
    fun n timer => ?_⟩, fun silent => absurd rfl silent⟩ fun _ held => (nomatch empty.symm.trans held)
  · by_contra unused
    rw [State.enterRunning, Table.get_tabulate, if_neg (by exact unused)] at timer
    cases timer
  · by_contra unused
    rw [State.enterRunning, Table.get_tabulate, if_neg (by exact unused)] at timer
    cases timer

/-! ### The pending list at a handling (R91 to R93, R135) -/

namespace PendingFollow

theorem ite {s t : State} {c : Prop} [Decidable c] (yes : c → PendingFollow s) (no : ¬ c → PendingFollow t) :
    PendingFollow (if c then s else t) := by
  split
  · exact yes ‹_›
  · exact no ‹_›

theorem handleCountReport {s : State} (follow : PendingFollow s) (f : Received) :
    PendingFollow (handleCountReport f s) := by
  cases f with
  | countReport source c => exact follow.present source c
  | _ => exact follow

theorem handleSettleAnswer {s : State} (follow : PendingFollow s) (f : Received) :
    PendingFollow (handleSettleAnswer f s) := by
  cases f with
  | settleAnswer source requester n tag c =>
    have taken := follow.present source c
    exact ite (fun due => taken.applySection n fun silent => absurd ((s.present_mode source c).trans due.1) silent)
      fun _ => taken
  | _ => exact follow

theorem answerPoint {s : State} (follow : PendingFollow s) (running : s.mode = .running) (requester : Station)
    (n : Slot) (tag : Serial) (p : Station × PointIndex) : PendingFollow (answerPoint requester n tag s p) :=
  ite (fun due => follow.withTx running (follow.kept.list.answerDue due.2 (State.listed_of_not_request _ nofun)))
    fun _ => follow

theorem handleSettleRequest {s : State} (follow : PendingFollow s) (f : Received) :
    PendingFollow (handleSettleRequest f s) := by
  cases f with
  | settleRequest source n tag points =>
    refine ite (fun running => ?_) fun _ => follow
    refine (List.foldlRecOn (motive := fun t : State => PendingFollow t ∧ t.mode = .running) points
      (Machine.answerPoint source n tag) ⟨follow, running⟩ fun t kept p _ =>
        ⟨kept.1.answerPoint kept.2 source n tag p, ?_⟩).1
    unfold Machine.answerPoint
    split <;> exact kept.2
  | _ => exact follow

theorem handleRestoreCommand {s : State} (follow : PendingFollow s) (f : Received) :
    PendingFollow (handleRestoreCommand f s) := by
  cases f with
  | restoreCommand source target n direct serial =>
    exact ite (fun due => follow.applySection n fun silent => absurd due.1 silent) fun _ => follow
  | _ => exact follow

end PendingFollow

namespace PendingSound

theorem ite {s t : State} {c : Prop} [Decidable c] (yes : c → PendingSound s) (no : ¬ c → PendingSound t) :
    PendingSound (if c then s else t) := by
  split
  · exact yes ‹_›
  · exact no ‹_›

theorem withRx {s : State} (sound : PendingSound s) (x : Receiver) : PendingSound (s.withRx x) :=
  SamePending.sound (s := s) (.of_tx rfl rfl rfl rfl) sound

theorem endHandling {s : State} (sound : PendingSound s) (ofClass : Nat → Bool) {effect : Received → State → State}
    (taken : ∀ f, PendingFollow (effect f s)) : PendingSound (s.endHandling ofClass effect) := by
  rcases s.endHandling_cases ofClass effect with ⟨e, _⟩ | ⟨_, _, _, _, ⟨_, e⟩ | ⟨f, _, e⟩⟩ <;> rw [e]
  · exact sound
  · exact sound.withRx _
  · exact ((taken f).withRx _).preempt_driveAttn

theorem enterHalted_driveAttn {s : State} (sound : PendingSound s) (halted : s.mode ≠ .halted) (cause : HaltCause) :
    PendingSound (s.enterHalted cause).driveAttn := (sound.kept.enterHalted halted cause).driveAttn

/-- A character ends, with a clash perhaps (R82 to R87). -/
theorem takeCharacter {s : State} (sound : PendingSound s) (halted : s.mode ≠ .halted) (b : Byte) :
    PendingSound (s.takeCharacter b) := by
  rcases s.takeCharacter_cases b with ⟨_, _, e⟩ | ⟨_, e⟩ | ⟨_, _, e⟩ <;> rw [e]
  · exact sound.withRx _
  · rcases State.judgeFrame_cases (s.withRx (s.rx.takeByte b)) (s.rx.takeByte b).buffer with
      ⟨_, e⟩ | ⟨_, _, _, e⟩ | ⟨_, _, _, e⟩ | ⟨_, _, e⟩ <;> rw [e]
    · exact sound.withRx _
    · exact sound.withRx _
    · exact ((sound.withRx _).withRx _).enterHalted_driveAttn (by exact halted) _
    · exact sound.withRx _
  · exact sound.withRx _

/-- The transmitter goes on with its live frame. -/
theorem live {s : State} (sound : PendingSound s) {x : Transmitter} (same : x.entries = s.tx.entries ∧
    x.nextPlace = s.tx.nextPlace ∧ x.next = s.tx.next ∧ x.reportTimers = s.tx.reportTimers ∧
    x.statusTimers = s.tx.statusTimers) : PendingSound (s.withTx x) := by
  obtain ⟨entries, place, next, timers⟩ := same
  exact (SamePending.withTx s entries place (by rw [next]) timers).sound sound

/-- MUTE empties both layers and halts the part (R77). -/
theorem enterMute {s : State} (sound : PendingSound s) (running : s.mode = .running) : PendingSound s.enterMute := by
  have emptied : PendingKept (s.withTx { s.tx with
      state := .mute, failures := s.tx.failures + 1, live := none, next := none }) :=
    ⟨sound.kept.list.emptied.of_same rfl rfl rfl (fun _ => rfl) fun _ => rfl, fun silent => absurd running silent⟩
  exact (emptied.enterHalted (by rw [State.withTx_mode, running]; decide) .mute).driveAttn

theorem expireAge {s : State} (sound : PendingSound s) (rest : SectionsRest s) (m : EntryIndex) (e : MirrorEntry) :
    PendingSound (s.expireAge m e) := by
  have follow : PendingFollow s := ⟨sound.kept, rest⟩
  unfold State.expireAge
  split
  · exact ((follow.setMirror m _).notifySections _ _).preempt_driveAttn
  · exact sound
  · exact sound

theorem toReset (s : State) : PendingSound s.toReset :=
  SamePending.sound (s := State.reset) (.of_tx rfl rfl rfl rfl) .reset

end PendingSound

/-- Outside HALTED every command keeps the pending list sound. -/
theorem exec_pendingSound (c : Instr) {s t : State} (h : exec c s = .next t) (halted : s.mode ≠ .halted)
    (rest : SectionsRest s) (sound : PendingSound s) : PendingSound t := by
  have follow : PendingFollow s := ⟨sound.kept, rest⟩
  have orKept {u : State} {c : Prop} [Decidable c] (taken : c → PendingSound u) : PendingSound (if c then u else s) :=
    .ite taken fun _ => sound
  have swept (r : Results) (happens : Bool) : PendingSound (if happens then s.completeSweep r else s) :=
    orKept fun _ => sound.completeSweep rest r
  cases c <;> obtain rfl := Host.Outcome.next.inj h
  case resetAssertion k => exact orKept fun _ => .toReset s
  case resetRelease straps =>
    refine orKept fun held => .ite (fun _ => sound.enterHalted_driveAttn halted _) fun _ => ?_
    exact sound.of_silent (by rw [held]; decide) halted rfl
  case configurationReadComplete levels =>
    refine orKept fun reading => .ite (fun _ => ?_) fun _ => sound.enterHalted_driveAttn halted _
    exact sound.of_silent (by rw [reading.1]; decide) halted rfl
  case loadingTimerExpiry => exact orKept fun due => sound.of_silent (by rw [due.1]; decide) halted rfl
  case listeningTimerExpiry =>
    exact orKept fun due => (sound.enterRunning (by rw [due.1]; decide) halted).driveAttn
  case sweepCompletion r => exact sound.completeSweep rest r
  case filteredLevelChange r _ _ | channelFaulted r _ _ | channelRecovered r _ _ | referenceFaulted r
      | referenceRecovered r | dwellEnd r _ | toggleHalfPeriod r _ => exact swept r _
  case reportTimerExpiry p => exact orKept fun due => (sound.kept.expireReport due.1 due.2).preempt
  case statusTimerExpiry n => exact orKept fun due => (sound.kept.expireStatus due.1 due.2).preempt
  case ageTimerExpiry m =>
    split
    · exact sound
    · refine orKept fun _ => .ite (fun _ => ?_) fun _ => sound.expireAge rest m _
      exact SamePending.sound (s := s) (.of_tx rfl rfl rfl rfl) sound
  case deadlineExpiry n | holdOffExpiry n =>
    split
    · exact sound
    · exact orKept fun due => (follow.applySection n fun silent => absurd due.1 silent).preempt_driveAttn
  case nextLayerLoad =>
    exact orKept fun due => (sound.kept.loadNext due.1 due.2).sound (State.loadNext_lowest due.2)
  case liveLayerMove => exact orKept fun due => sound.move due.1
  case idleCompletion =>
    refine orKept fun _ => (sound.withRx s.rx.idle).live ?_
    unfold Transmitter.start
    split
    · split <;> exact ⟨rfl, rfl, rfl, rfl, rfl⟩
    · exact ⟨rfl, rfl, rfl, rfl, rfl⟩
  case arbitrationWon bits => exact orKept fun _ => sound.live ⟨rfl, rfl, rfl, rfl, rfl⟩
  case lostArbitration bit samples => exact orKept fun _ => sound.live ⟨rfl, rfl, rfl, rfl, rfl⟩
  case bitError position samples =>
    refine orKept fun _ => .ite (fun running => ?_) fun _ => orKept fun due => absurd due.1 halted
    unfold State.abortFrame
    refine .ite (fun _ => sound.enterMute running) fun _ => ?_
    exact (sound.live (x := { s.tx with failures := s.tx.failures + 1 }) ⟨rfl, rfl, rfl, rfl, rfl⟩).live
      ⟨rfl, rfl, rfl, rfl, rfl⟩
  case mute position samples => exact orKept fun due => sound.enterMute due.1
  case frameCompletion samples =>
    split
    · exact sound
    · exact orKept fun _ => (SamePending.completeFrame s _).sound sound
  case framingError bit samples => split <;> exact orKept fun _ => sound.withRx _
  case badLength data | receiverFrameComplete data | characterComplete data =>
    exact orKept fun _ => sound.takeCharacter halted _
  case countReport => exact sound.endHandling _ follow.handleCountReport
  case settleAnswer => exact sound.endHandling _ follow.handleSettleAnswer
  case settleRequest => exact sound.endHandling _ follow.handleSettleRequest
  case restoreCommand => exact sound.endHandling _ follow.handleRestoreCommand
  case sectionStatus | class7FrameHandled => exact sound.endHandling _ fun _ => follow
  case startBit dominantSamples samples => exact orKept fun _ => sound.withRx _

/-- In HALTED a frame being finished leaves the pending list alone (R79). -/
theorem exec_pendingSound_halted (c : Instr) {s t : State} (h : exec c s = .next t) (halted : s.mode = .halted)
    (sound : PendingSound s) : PendingSound t := by
  by_cases reset : ∃ k, 2 ≤ k ∧ c = .resetAssertion k
  · obtain ⟨k, long, rfl⟩ := reset
    rw [exec_resetAssertion, if_pos long] at h
    obtain rfl := Host.Outcome.next.inj h
    exact .toReset s
  · rcases exec_halted c h halted fun k long e => reset ⟨k, long, e⟩ with
      rfl | ⟨_, lf, _, ⟨_, _, _, _, rfl⟩ | ⟨_, _, _, rfl⟩⟩
    · exact sound
    · exact sound.live ⟨rfl, rfl, rfl, rfl, rfl⟩
    · exact (SamePending.completeFrame s lf).sound sound

/-- Settles O56: what each operation makes of the pending list, and preemption at the end of every event that may put
an entry below the next layer's class. -/
theorem pendingListStaysSound : Obligations.PendingListStaysSound := by
  intro s t kept sound h
  unfold step at h
  split at h
  · obtain rfl := Host.Outcome.next.inj h
    exact sound.idleStep
  · rename_i c queue _
    have sound' : PendingSound { s with pending := queue } :=
      SamePending.sound (s := s) (.of_tx rfl rfl rfl rfl) sound
    by_cases halted : s.mode = .halted
    · exact exec_pendingSound_halted c h halted sound'
    · exact exec_pendingSound c h halted kept.rest sound'

end Sys2Proof.Machine

namespace Sys2Proof.Machine

open Sys2Proof.Claims

/-! ### What is held of an entry, pending or unstarted in a layer (R44 to R46, R66, R70) -/

/-- An unstarted frame is held for an entry of which `P` is true. -/
def Transmitter.heldLayer (P : Entry → Prop) (t : Transmitter) : Prop :=
  ∃ lf, P lf.entry ∧ (t.next = some lf ∨ t.state = .waiting ∧ t.live = some lf)

/-- An entry of which `P` is true is pending, or its frame is held unstarted. -/
def Transmitter.heldWhere (P : Entry → Prop) (t : Transmitter) : Prop := (∃ e ∈ t.entries, P e) ∨ t.heldLayer P

theorem heldUnstarted_iff {t : Transmitter} {kind : EntryKind} :
    heldUnstarted t kind ↔ t.heldLayer fun e => e.kind = kind := Iff.rfl

theorem isHeld_iff {t : Transmitter} {kind : EntryKind} : isHeld t kind ↔ t.heldWhere fun e => e.kind = kind := Iff.rfl

theorem layerHolds_iff {which : EntryKind → Bool} {layer : Option LayerFrame} :
    layerHolds which layer = true ↔ ∃ lf, layer = some lf ∧ which lf.entry.kind = true := by
  cases layer <;> simp [layerHolds]

theorem Transmitter.holdsUnstarted_iff {t : Transmitter} {which : EntryKind → Bool} :
    t.holdsUnstarted which = true ↔ t.heldLayer fun e => which e.kind = true := by
  unfold Transmitter.holdsUnstarted Transmitter.heldLayer
  rw [Bool.or_eq_true, Bool.and_eq_true, layerHolds_iff, layerHolds_iff, decide_eq_true_iff]
  constructor
  · rintro (⟨lf, held, is⟩ | ⟨waiting, lf, held, is⟩)
    · exact ⟨lf, is, .inl held⟩
    · exact ⟨lf, is, .inr ⟨waiting, held⟩⟩
  · rintro ⟨lf, is, held | ⟨waiting, held⟩⟩
    · exact .inl ⟨lf, held, is⟩
    · exact .inr ⟨waiting, lf, held, is⟩

theorem Transmitter.isPending_iff {t : Transmitter} {which : EntryKind → Bool} :
    t.isPending which = true ↔ ∃ e ∈ t.entries, which e.kind = true := List.any_eq_true

namespace Transmitter

variable {P Q : Entry → Prop} {t u : Transmitter}

theorem heldWhere.mono (held : t.heldWhere P) (sub : t.entries ⊆ u.entries)
    (layers : u.next = t.next ∧ u.state = t.state ∧ u.live = t.live) : u.heldWhere P := by
  obtain ⟨next, state, live⟩ := layers
  unfold heldWhere heldLayer
  rw [next, state, live]
  exact held.imp (fun ⟨e, mem, is⟩ => ⟨e, sub mem, is⟩) id

theorem heldWhere.append (held : t.heldWhere P) (kind : EntryKind) (cls : Nat) : (t.append kind cls).heldWhere P :=
  held.mono (fun _ mem => List.mem_append_left _ mem) ⟨rfl, rfl, rfl⟩

/-- An entry that leaves the list takes nothing along that is not true of it. -/
theorem heldWhere.filter (held : t.heldWhere P) {keep : Entry → Bool} (kept : ∀ e, P e → keep e = true) :
    ({ t with entries := t.entries.filter keep } : Transmitter).heldWhere P :=
  held.imp (fun ⟨e, mem, is⟩ => ⟨e, List.mem_filter.2 ⟨mem, kept e is⟩, is⟩) id

/-- A change that falls due raises entries of its own kind alone. -/
theorem heldWhere.hold (held : t.heldWhere P) {which : EntryKind → Bool} (kind : EntryKind) {changeClass : Nat}
    (periodicClass : Nat) (cause : DueCause)
    (raised : ∀ e, P e → which e.kind = true → P { e with cls := min e.cls changeClass }) :
    (t.hold which kind changeClass periodicClass cause).heldWhere P := by
  unfold Transmitter.hold
  split
  · cases cause with
    | periodic => exact held
    | change =>
      refine held.imp (fun ⟨e, mem, is⟩ => ⟨_, List.mem_map_of_mem mem, ?_⟩) id
      split
      · exact raised e is ‹_›
      · exact is
  · split
    · exact held
    · cases cause <;> exact held.append _ _

end Transmitter

theorem Transmitter.heldLayer.refresh {P Q : Entry → Prop} {s : State} (held : s.tx.heldLayer P)
    {concerns : EntryKind → Bool} {newClass : EntryKind → Nat → Nat}
    (keeps : ∀ e, P e → Q (refreshedEntry concerns newClass e)) : (s.refresh concerns newClass).tx.heldLayer Q := by
  obtain ⟨lf, is, place⟩ := held
  have refreshed (layer : Option LayerFrame) (here : layer = some lf) :
      ∃ lf', Q lf'.entry ∧ s.refreshLayer concerns newClass layer = some lf' := by
    have entries := s.refreshLayer_entry concerns newClass layer
    rw [here, Option.map_some] at entries
    obtain ⟨lf', held', entry⟩ := Option.map_eq_some_iff.1 entries
    exact ⟨lf', entry ▸ keeps _ is, here ▸ held'⟩
  rcases place with next | ⟨waiting, live⟩
  · obtain ⟨lf', is', next'⟩ := refreshed _ next
    exact ⟨lf', is', .inl next'⟩
  · obtain ⟨lf', is', live'⟩ := refreshed _ live
    exact ⟨lf', is', .inr ⟨waiting, (if_pos waiting).trans live'⟩⟩

theorem Transmitter.heldWhere.refresh {P : Entry → Prop} {s : State} (held : s.tx.heldWhere P)
    {concerns : EntryKind → Bool} {newClass : EntryKind → Nat → Nat}
    (keeps : ∀ e, P e → P (refreshedEntry concerns newClass e)) : (s.refresh concerns newClass).tx.heldWhere P :=
  held.imp id fun layer => layer.refresh keeps

/-! ### What is held stays so through loading and preemption (R67, R68, R71) -/

/-- A load puts what it takes from the list into the next layer (R68). -/
theorem Transmitter.heldWhere.loadNext {P : Entry → Prop} {s : State} (held : s.tx.heldWhere P)
    (empty : s.tx.next = none) (builds : ∀ e, P e → (s.buildFrame e).isSome = true) : s.loadNext.tx.heldWhere P := by
  rcases s.loadNext_cases with ⟨_, e⟩ | ⟨e, _, loaded⟩
  · rwa [e]
  · rw [loaded]
    rcases held with ⟨g, mem, is⟩ | ⟨lf, is, next | ⟨waiting, live⟩⟩
    · by_cases chosen : g = e
      · subst chosen
        obtain ⟨f, built⟩ := Option.isSome_iff_exists.1 (builds g is)
        exact .inr ⟨⟨g, f⟩, is, .inl (by rw [State.withTx_tx, built]; rfl)⟩
      · exact .inl ⟨g, List.mem_filter.2 ⟨mem, decide_eq_true chosen⟩, is⟩
    · exact nomatch empty.symm.trans next
    · exact .inr ⟨lf, is, .inr ⟨waiting, live⟩⟩

/-- What returns to the list is held by it, alone or as one with the pending entry of its key (R67). -/
theorem Transmitter.heldWhere.takeBack {P : Entry → Prop} {t : Transmitter} {lf : LayerFrame} (next : t.next = some lf)
    (held : t.heldWhere P)
    (merge : ∀ f ∈ t.entries, keyOf lf.entry.kind = keyOf f.kind → P lf.entry ∨ P f → P (mergeEntries lf.entry f)) :
    (({ t with next := none } : Transmitter).takeBack lf.entry).heldWhere P := by
  have cases' : P lf.entry ∨ (∃ e ∈ t.entries, P e) ∨ ∃ g, P g.entry ∧ t.state = .waiting ∧ t.live = some g := by
    rcases held with pending | ⟨g, is, same | live⟩
    · exact .inr (.inl pending)
    · obtain rfl := Option.some.inj (next.symm.trans same)
      exact .inl is
    · exact .inr (.inr ⟨g, is, live⟩)
  rcases ({ t with next := none } : Transmitter).takeBack_cases lf.entry with ⟨_, e⟩ | ⟨f, mem, same, e⟩ <;> rw [e]
  · have put := insertByPlace_perm lf.entry t.entries
    rcases cases' with is | ⟨e, mem, is⟩ | ⟨g, is, live⟩
    · exact .inl ⟨_, put.mem_iff.2 (.head _), is⟩
    · exact .inl ⟨e, put.mem_iff.2 (.tail _ mem), is⟩
    · exact .inr ⟨g, is, .inr live⟩
  · have put := insertByPlace_perm (mergeEntries lf.entry f) (t.entries.filter fun g => g ≠ f)
    have merged (either : P lf.entry ∨ P f) : ∃ e ∈ insertByPlace (mergeEntries lf.entry f)
        (t.entries.filter fun g => g ≠ f), P e :=
      ⟨_, put.mem_iff.2 (.head _), merge f mem same.symm either⟩
    rcases cases' with is | ⟨e, mem, is⟩ | ⟨g, is, live⟩
    · exact .inl (merged (.inl is))
    · by_cases here : e = f
      · exact .inl (merged (.inr (here ▸ is)))
      · exact .inl ⟨e, put.mem_iff.2 (.tail _ (List.mem_filter.2 ⟨mem, decide_eq_true here⟩)), is⟩
    · exact .inr ⟨g, is, .inr live⟩

/-- Preemption loses nothing of what can be built and whose round is open (R67, R71). -/
theorem Transmitter.heldWhere.preempt {P : Entry → Prop} {s : State} (held : s.tx.heldWhere P)
    (builds : ∀ e, P e → (s.buildFrame e).isSome = true) (opened : ∀ e, P e → s.roundOpen e.kind = true)
    (merge : ∀ lf, s.tx.next = some lf → ∀ f ∈ s.tx.entries, keyOf lf.entry.kind = keyOf f.kind →
      P lf.entry ∨ P f → P (mergeEntries lf.entry f)) : s.preempt.tx.heldWhere P := by
  rcases s.preempt_cases with ⟨_, e⟩ | ⟨lf, _, next, _, e⟩ <;> rw [e]
  · exact held
  · have emptied : (s.givenWay lf).heldWhere P := by
      unfold State.givenWay
      split
      · exact held.takeBack next (merge lf next)
      · rename_i closed
        refine held.imp id fun ⟨g, is, place⟩ => ⟨g, is, place.imp (fun same => ?_) id⟩
        obtain rfl := Option.some.inj (next.symm.trans same)
        exact absurd (opened _ is) closed
    refine Transmitter.heldWhere.loadNext emptied (s.givenWay_next lf) fun e is => ?_
    rw [s.buildFrame_withTx (by rw [State.givenWay_keeps])]
    exact builds e is

end Sys2Proof.Machine

namespace Sys2Proof.Machine

open Sys2Proof.Claims

/-! ### A change that is taken up (R43 to R45, R66, R169) -/

/-- The class that a change gives the entries of a kind, the lowest that the kind may hold (R43, R169). -/
def EntryKind.changeClass : EntryKind → Nat
  | .report _ => 3
  | .status _ => 4
  | .request _ _ _ => 2
  | .answer _ _ _ _ => 1

theorem EntryKind.changeClass_le {kind : EntryKind} {cls : Nat} (holds : kind.mayHold cls) :
    kind.changeClass ≤ cls := by
  cases kind <;> simp only [EntryKind.mayHold, EntryKind.changeClass] at * <;> omega

/-- The kinds that a change makes due. -/
def EntryKind.isDue : EntryKind → Prop
  | .report _ => True
  | .status _ => True
  | .request _ _ _ => False
  | .answer _ _ _ _ => False

/-- The entry is of this kind and holds the class of a change. -/
def Entry.changed (kind : EntryKind) (e : Entry) : Prop := e.kind = kind ∧ e.cls = kind.changeClass

/-- A change has been taken up by the entry of its kind, or by the unstarted frame of it. -/
def Transmitter.takenUp (kind : EntryKind) (t : Transmitter) : Prop := t.heldWhere (Entry.changed kind)

/-- A kind that a change makes due is its own key. -/
theorem EntryKind.isDue.key {kind other : EntryKind} (due : kind.isDue) : keyOf kind = keyOf other ↔ other = kind := by
  cases kind with
  | report p => exact eq_comm.trans keyOf_eq_report_iff
  | status n => exact eq_comm.trans keyOf_eq_status_iff
  | request n id tag => exact due.elim
  | answer requester n p tag => exact due.elim

theorem EntryKind.isDue.roundOpen {kind : EntryKind} (due : kind.isDue) (s : State) : s.roundOpen kind = true := by
  cases kind with
  | report p | status n => rfl
  | request n id tag | answer requester n p tag => exact due.elim

/-- What is in use can be built (R37, R105). -/
theorem State.buildable_of_inUse {s : State} {kind : EntryKind} (used : s.concernsInUse kind) :
    s.buildable kind = true := by
  cases kind with
  | report p | answer requester n p tag => rfl
  | status n | request n id tag => exact used

/-- A change that falls due is taken up, once the unstarted frames that it concerns are refreshed (R44, R45, R66). -/
theorem Transmitter.takenUp_of_due {inUse listed : EntryKind → Prop} {s : State} (sound : s.tx.ListSound inUse listed)
    {which concerns : EntryKind → Bool} {newClass : EntryKind → Nat → Nat} {kind : EntryKind} (periodicClass : Nat)
    (own : ∀ k, which k = true ↔ k = kind) (concerned : concerns kind = true)
    (class' : ∀ cls, newClass kind cls = kind.changeClass) :
    ((s.withTx (s.tx.hold which kind kind.changeClass periodicClass .change)).refresh concerns newClass).tx.takenUp
      kind := by
  have fresh {e : Entry} (is : e.kind = kind) : (refreshedEntry concerns newClass e).changed kind := by
    unfold refreshedEntry
    rw [if_pos (by rw [is]; exact concerned)]
    exact ⟨is, by dsimp only; rw [is, class']⟩
  unfold Transmitter.hold
  split
  · rename_i pending
    obtain ⟨e, mem, is⟩ := isPending_iff.1 pending
    refine .inl ⟨_, List.mem_map_of_mem mem, ?_⟩
    have kind' := (own _).1 is
    rw [if_pos is]
    refine ⟨kind', min_eq_right (EntryKind.changeClass_le ?_)⟩
    rw [← kind']
    exact (sound.entries e mem).2.1
  · split
    · rename_i unstarted
      exact .inr ((holdsUnstarted_iff.1 unstarted).refresh fun e is => fresh ((own _).1 is))
    · exact .inl ⟨_, List.mem_append_right _ (.head _), rfl, rfl⟩

theorem State.pointChangeDue_takenUp {s : State} {inUse listed : EntryKind → Prop} (sound : s.tx.ListSound inUse listed)
    (running : s.mode = .running) (p : PointIndex) : (s.pointChangeDue p).tx.takenUp (.report p) := by
  have due : s.pointChangeDue p = (s.withTx (s.tx.reportDue p .change)).refresh (EntryKind.carriesPoint p)
      pointChangeClass := if_pos running
  rw [due]
  exact Transmitter.takenUp_of_due sound 5 (fun k => EntryKind.isReport_iff) (beq_self_eq_true p) fun _ => rfl

theorem State.sectionChangeDue_takenUp {s : State} {inUse listed : EntryKind → Prop}
    (sound : s.tx.ListSound inUse listed) (running : s.mode = .running) (n : Slot) :
    (s.sectionChangeDue n).tx.takenUp (.status n) := by
  have due : s.sectionChangeDue n = (s.withTx (s.tx.statusDue n .change)).refresh (EntryKind.isStatus n)
      statusChangeClass := if_pos running
  rw [due]
  exact Transmitter.takenUp_of_due sound 6 (fun k => EntryKind.isStatus_iff) (beq_self_eq_true n) fun _ => rfl

namespace Transmitter.takenUp

variable {kind : EntryKind} {s : State}

/-- A later change raises no entry above the class of a change of its kind. -/
theorem hold {t : Transmitter} (taken : t.takenUp kind) {which : EntryKind → Bool} {other : EntryKind}
    (own : ∀ k, which k = true ↔ k = other) (periodicClass : Nat) (cause : DueCause) :
    (t.hold which other other.changeClass periodicClass cause).takenUp kind := by
  refine heldWhere.hold taken other periodicClass cause fun e ⟨is, cls⟩ chosen => ⟨is, ?_⟩
  obtain rfl : kind = other := is.symm.trans ((own _).1 chosen)
  exact (min_eq_left cls.le).trans cls

theorem pointChangeDue (taken : s.tx.takenUp kind) (due : kind.isDue) (p : PointIndex) :
    (s.pointChangeDue p).tx.takenUp kind := by
  unfold State.pointChangeDue
  split
  · refine heldWhere.refresh (s := s.withTx (s.tx.reportDue p .change))
      (taken.hold (other := .report p) (fun k => EntryKind.isReport_iff) 5 .change) fun e ⟨is, cls⟩ => ?_
    unfold refreshedEntry
    split
    · rename_i carries
      refine ⟨is, ?_⟩
      cases kind with
      | report q => rw [is]; rfl
      | status n => rw [is] at carries; cases carries
      | request n id tag | answer requester n q tag => exact due.elim
    · exact ⟨is, cls⟩
  · exact taken

theorem sectionChangeDue (taken : s.tx.takenUp kind) (n : Slot) : (s.sectionChangeDue n).tx.takenUp kind := by
  unfold State.sectionChangeDue
  split
  · refine heldWhere.refresh (s := s.withTx (s.tx.statusDue n .change))
      (taken.hold (other := .status n) (fun k => EntryKind.isStatus_iff) 6 .change) fun e ⟨is, cls⟩ => ?_
    unfold refreshedEntry
    split
    · rename_i status
      refine ⟨is, ?_⟩
      rw [← is, EntryKind.isStatus_iff.1 status]
      rfl
    · exact ⟨is, cls⟩
  · exact taken

/-- A round that ends takes its request alone from the list (R134). -/
theorem followRound (taken : s.tx.takenUp kind) (due : kind.isDue) (n : Slot) (before after : Section) :
    (s.followRound n before after).tx.takenUp kind := by
  have dropped : (if roundEnded before after then s.tx.dropRequest n else s.tx).takenUp kind := by
    split
    · refine heldWhere.filter taken fun e ⟨is, _⟩ => ?_
      rw [is]
      cases kind with
      | report p | status m => rfl
      | request m id tag | answer requester m p tag => exact due.elim
    · exact taken
  unfold State.followRound
  dsimp only [State.withTx_tx]
  split
  · exact dropped
  · exact heldWhere.append dropped _ _

theorem applySection (taken : s.tx.takenUp kind) (due : kind.isDue) (n : Slot) (f : Section → Section) :
    (s.applySection n f).tx.takenUp kind := by
  unfold State.applySection
  split
  · exact taken
  · rename_i sec _
    have followed := followRound (s := s.setSection n (f sec)) taken due n sec (f sec)
    dsimp only
    split
    · exact followed.sectionChangeDue n
    · exact followed

/-- Preemption keeps what is taken up: the two that become one hold the lower class (R67). -/
theorem preempt (taken : s.tx.takenUp kind) (due : kind.isDue) (kept : PendingKept s) (used : s.concernsInUse kind) :
    s.preempt.tx.takenUp kind := by
  refine heldWhere.preempt taken (fun e ⟨is, _⟩ => ?_) (fun e ⟨is, _⟩ => ?_) fun lf next f mem same either => ?_
  · rw [State.buildFrame_isSome, is]
    exact State.buildable_of_inUse used
  · rw [is]
    exact due.roundOpen s
  · have kinds : lf.entry.kind = kind ∧ f.kind = kind := by
      rcases either with ⟨is, _⟩ | ⟨is, _⟩
      · exact ⟨is, due.key.1 (is ▸ same)⟩
      · exact ⟨due.key.1 (is ▸ same.symm), is⟩
    have low := EntryKind.changeClass_le (kept.list.next lf next).2.1
    have low' := EntryKind.changeClass_le (kept.list.entries f mem).2.1
    rw [kinds.1] at low
    rw [kinds.2] at low'
    refine ⟨kinds.2, le_antisymm ?_ (le_min low low')⟩
    rcases either with ⟨_, cls⟩ | ⟨_, cls⟩
    · exact (min_le_left _ _).trans cls.le
    · exact (min_le_right _ _).trans cls.le

end Transmitter.takenUp

/-! ### Points and slots at a completion (R43, R128, R169) -/

/-- What one place of a fold establishes and every other keeps holds at its end. -/
theorem foldl_establishes {α σ : Type} {f : σ → α → σ} {l : List α} {a : α} (mem : a ∈ l) {kept done : σ → Prop} {s : σ}
    (start : kept s) (keep : ∀ t, kept t → ∀ b ∈ l, kept (f t b)) (establish : ∀ t, kept t → done (f t a))
    (stays : ∀ t, kept t → done t → ∀ b, done (f t b)) : done (l.foldl f s) := by
  obtain ⟨before, after, rfl⟩ := List.append_of_mem mem
  have upTo : kept (before.foldl f s) :=
    List.foldlRecOn before f start fun t kept' b mem => keep t kept' b (List.mem_append_left _ mem)
  rw [List.foldl_append, List.foldl_cons]
  refine (List.foldlRecOn (motive := fun t => kept t ∧ done t) after f
    ⟨keep _ upTo a mem, establish _ upTo⟩ fun t ih b mem' => ⟨keep t ih.1 b ?_, stays t ih.1 ih.2 b⟩).2
  exact List.mem_append_right _ (.tail _ mem')

/-- The reports of a completion are taken up (R43 to R45). -/
theorem State.reportedSweep_takenUp {s : State} (follow : PendingFollow s) (running : s.mode = .running) (r : Results)
    {p : PointIndex} (changed : p ∈ changedPoints s (s.sweepFront r).sweepRecords) :
    (s.reportedSweep r).tx.takenUp (.report p) := by
  have swept : PendingFollow (s.sweepFront r).sweepRecords := follow.of_same (.of_tx rfl rfl rfl rfl) rfl
  exact foldl_establishes (f := State.pointChangeDue) (done := fun t : State => t.tx.takenUp (.report p)) changed
    (kept := fun t => PendingFollow t ∧ t.config = s.config ∧ t.mode = .running) ⟨swept, rfl, running⟩
    (fun t ⟨kept, config, mode⟩ q mem =>
      ⟨kept.pointChangeDue (by rw [State.pointInUse_congr config]; exact changedPoints_inUse mem),
        (t.pointChangeDue_config q).trans config, (t.pointChangeDue_mode q).trans mode⟩)
    (fun t ⟨kept, _, mode⟩ => State.pointChangeDue_takenUp kept.kept.list mode p)
    fun t _ taken q => taken.pointChangeDue trivial q

/-- A section that has moved away from what its slot held has its status taken up (R169). -/
def State.statusFollows (s : State) (n : Slot) (t : State) : Prop :=
  sectionMoved (s.sections.get n) (t.sections.get n) → t.tx.takenUp (.status n)

theorem sectionMoved_irrefl (slot : Option Section) : ¬ sectionMoved slot slot := by
  rintro ⟨x, y, rfl, same, moved⟩
  obtain rfl := Option.some.inj same
  simp at moved

/-- Where an evaluation changes nothing that it hands on, the section has moved no further (R128). -/
theorem sectionMoved_of_unchanged {slot : Option Section} {before after : Section}
    (unchanged : ¬ sectionChanged before after = true) (moved : sectionMoved slot (some after)) :
    sectionMoved slot (some before) := by
  obtain ⟨x, y, rfl, same, differs⟩ := moved
  obtain rfl := Option.some.inj same
  simp only [sectionChanged, Bool.or_eq_true, decide_eq_true_iff, not_or, not_not] at unchanged
  obtain ⟨⟨⟨⟨state, balance⟩, cause⟩, _⟩, _⟩ := unchanged
  exact ⟨x, before, rfl, rfl, by rw [state, balance, cause]; exact differs⟩

/-- The status of a slot follows every evaluation (R66, R169). -/
theorem State.statusFollows.applySection {s t : State} {n : Slot} (follows : s.statusFollows n t) (kept : PendingKept t)
    (running : t.mode = .running) (m : Slot) (f : Section → Section) : s.statusFollows n (t.applySection m f) := by
  intro moved
  by_cases before : sectionMoved (s.sections.get n) (t.sections.get n)
  · exact (follows before).applySection trivial m f
  · by_cases here : n = m
    · subst here
      cases slot : t.sections.get n with
      | none =>
        rw [State.applySection_get_same, slot] at moved
        obtain ⟨_, _, _, none, _⟩ := moved
        cases none
      | some sec =>
        rw [State.applySection_get_same, slot, Option.map_some] at moved
        by_cases changed : sectionChanged sec (f sec) = true
        · unfold State.applySection
          rw [slot]
          dsimp only
          rw [if_pos changed]
          exact State.sectionChangeDue_takenUp (kept.list.followRound slot running (f sec)) running n
        · exact absurd (slot ▸ sectionMoved_of_unchanged changed moved) before
    · rw [State.applySection_get_other _ _ here] at moved
      exact absurd moved before

/-! ### A sweep completion and the transmitter (R43, R169) -/

/-- The transmitter and the sections after a completion are those of the preempted one. -/
theorem State.completeSweep_preempts {s : State} (listens : s.mode.listens = true) (r : Results) :
    (s.completeSweep r).tx = (s.sweep r).preempt.tx ∧ (s.completeSweep r).sections = (s.sweep r).sections := by
  have e : s.completeSweep r = (s.sweep r).preempt.driveAttn := if_pos listens
  rw [e, State.driveAttn_tx, State.driveAttn_sections, State.preempt_sections]
  exact ⟨rfl, rfl⟩

theorem State.sweep_config (s : State) (r : Results) : (s.sweep r).config = s.config :=
  State.sweep_preserves (P := fun t => t.config = s.config) (by rw [State.reportedSweep_eq]; rfl)
    (fun t n p kept => (t.reachSection_config n none _).trans kept) (fun _ _ _ kept => kept) fun _ _ kept => kept

/-- A point that has changed is taken up by its report (R43 to R45). -/
theorem PendingFollow.report_takenUp {s : State} (follow : PendingFollow s) (running : s.mode = .running) (r : Results)
    {p : PointIndex} (changed : p ∈ changedPoints s (s.sweepFront r).sweepRecords) :
    (s.sweep r).preempt.tx.takenUp (.report p) := by
  have taken : (s.sweep r).tx.takenUp (.report p) :=
    State.sweep_preserves (P := fun t => t.tx.takenUp (.report p))
      (State.reportedSweep_takenUp follow running r changed) (fun t n q taken => taken.applySection trivial n _)
      (fun _ _ _ taken => taken) fun _ _ taken => taken
  refine taken.preempt trivial (follow.sweep r).kept ?_
  exact (State.pointInUse_congr (s.sweep_config r) p).trans (changedPoints_inUse changed)

/-- A section that has moved is taken up by its status (R169). -/
theorem PendingFollow.status_takenUp {s : State} (follow : PendingFollow s) (running : s.mode = .running) (r : Results)
    {n : Slot} (moved : sectionMoved (s.sections.get n) ((s.sweep r).sections.get n)) :
    (s.sweep r).preempt.tx.takenUp (.status n) := by
  have mode : (s.reportedSweep r).mode = .running := by rw [State.reportedSweep_eq]; exact running
  have start : s.statusFollows n (s.reportedSweep r) := by
    unfold State.statusFollows
    rw [State.reportedSweep_sections]
    exact fun none => absurd none (sectionMoved_irrefl _)
  have follows : s.statusFollows n (s.sweep r) :=
    (State.sweep_preserves (P := fun t => PendingFollow t ∧ t.mode = .running ∧ s.statusFollows n t)
      ⟨follow.reportedSweep r, mode, start⟩
      (fun t m p ⟨kept, mode, follows⟩ => ⟨kept.reachSection m none _, (t.reachSection_mode m none _).trans mode,
        follows.applySection kept.kept mode m _⟩)
      (fun t m l ⟨kept, mode, follows⟩ => ⟨kept.setLine m l, mode, follows⟩)
      fun t draws ⟨kept, mode, follows⟩ => ⟨kept.of_same (.of_tx rfl rfl rfl rfl) rfl, mode, follows⟩).2.2
  refine (follows moved).preempt trivial (follow.sweep r).kept ?_
  obtain ⟨_, _, _, slot, _⟩ := moved
  simp [State.concernsInUse, slot]

/-- Outside RUNNING a completion leaves the transmitter as it is (R43, R169). -/
theorem State.sweep_tx_of_silent {s : State} (silent : s.mode ≠ .running) (rest : SectionsRest s) (r : Results) :
    (s.sweep r).tx = s.tx := by
  have swept : (s.sweepFront r).sweepRecords.mode = s.mode ∧ (s.sweepFront r).sweepRecords.tx = s.tx := ⟨rfl, rfl⟩
  have reported : (s.reportedSweep r).tx = s.tx :=
    (List.foldlRecOn (motive := fun t : State => t.mode = s.mode ∧ t.tx = s.tx)
      (changedPoints s (s.sweepFront r).sweepRecords) State.pointChangeDue swept fun t ⟨mode, tx⟩ p _ => by
        have kept : t.pointChangeDue p = t := if_neg (by rw [mode]; exact silent)
        rw [kept]
        exact ⟨mode, tx⟩).2
  have mode : (s.reportedSweep r).mode = s.mode := by rw [State.reportedSweep_eq]; rfl
  have rest' : SectionsRest (s.reportedSweep r) := by
    unfold SectionsRest
    rw [mode, State.reportedSweep_sections]
    exact rest
  refine (State.sweep_preserves (P := fun t => t.mode = s.mode ∧ SectionsRest t ∧ t.tx = s.tx)
    ⟨mode, rest', reported⟩ (fun t n p ⟨mode, rest, tx⟩ => ?_) (fun _ _ _ kept => kept) fun _ _ kept => kept).2.2
  have keeps := t.reach_keepsRest none (.localPoint p)
  exact ⟨(t.reachSection_mode n none _).trans mode, rest.applySection n fun _ => keeps,
    (State.applySection_tx_of_silent (by rw [mode]; exact silent) rest n keeps).trans tx⟩

/-- Settles O19: every change makes its report or status due, and nothing that follows in the completion takes it
away. -/
theorem pointChangeIsReported : Obligations.PointChangeIsReported := by
  intro s r p sections pending sound current
  have follow : PendingFollow s := ⟨pending.kept, sections.rest⟩
  refine ⟨s.completeSweep r, rfl, fun running changed => ?_, fun running n moved => ?_, fun listening => ?_⟩
  · have listens : s.mode.listens = true := by rw [running]; rfl
    have frames := ((FramesFollow.of_current (by rw [running]; decide) sound current).completeSweep r).current
    have taken := follow.report_takenUp running r ((mem_changedPoints listens r p).2 ((pointChanged_iff _ _).1 changed))
    rw [← (State.completeSweep_preempts listens r).1] at taken
    refine taken.imp id fun ⟨lf, ⟨kind, cls⟩, place⟩ => ⟨lf, kind, cls, ?_, place⟩
    rcases place with next | ⟨waiting, live⟩
    · exact frames.next lf next
    · exact frames.waiting waiting lf live
  · have listens : s.mode.listens = true := by rw [running]; rfl
    rw [(State.completeSweep_preempts listens r).2] at moved
    have taken := follow.status_takenUp running r moved
    rw [← (State.completeSweep_preempts listens r).1] at taken
    exact taken.imp id fun ⟨lf, ⟨kind, cls⟩, place⟩ => ⟨lf, kind, cls, place⟩
  · have silent : s.mode ≠ .running := by rw [listening]; decide
    have tx := State.sweep_tx_of_silent silent follow.rest r
    have listens : s.mode.listens = true := by rw [listening]; rfl
    have empty : (s.sweep r).tx.next = none := by rw [tx]; exact (pending.empty silent).1
    rw [(State.completeSweep_preempts listens r).1, State.preempt, empty]
    exact tx

end Sys2Proof.Machine

namespace Sys2Proof.Machine

open Sys2Proof.Claims

/-! ### The expiry of a report timer (R42, R44 to R46) -/

theorem exec_reportTimerExpiry {s : State} (running : s.mode = .running) {p : PointIndex}
    (timer : (s.tx.reportTimers.get p).running = true) :
    exec (.reportTimerExpiry p) s = .next (s.withTx (s.tx.expireReport p)).preempt :=
  congrArg Host.Outcome.next (if_pos ⟨running, timer⟩)

/-- The transmitter after an expiry of the report timer of `p` that starts it again or leaves it stopped. -/
def Transmitter.timedOut (t : Transmitter) (p : PointIndex) (timer : Timer) : Transmitter :=
  { t with reportTimers := t.reportTimers.set p timer }

theorem Transmitter.holdsReport_iff {t : Transmitter} {p : PointIndex} :
    t.holdsUnstarted (EntryKind.isReport p) = true ↔ heldUnstarted t (.report p) := by
  simp only [holdsUnstarted_iff, heldUnstarted_iff, EntryKind.isReport_iff]

theorem Transmitter.reportPending_iff {t : Transmitter} {p : PointIndex} :
    t.isPending (EntryKind.isReport p) = true ↔ ∃ e ∈ t.entries, e.kind = .report p := by
  simp only [isPending_iff, EntryKind.isReport_iff]

/-- An unstarted report takes up the periodic cause and its timer starts again (R45, R46). -/
theorem Transmitter.expireReport_of_unstarted {t : Transmitter} {p : PointIndex} (held : heldUnstarted t (.report p)) :
    t.expireReport p = t.timedOut p .started := by
  have unstarted := holdsReport_iff.2 held
  have timer : timerAfterExpiry (t.holdsUnstarted (EntryKind.isReport p)) = .started := if_pos unstarted
  unfold Transmitter.expireReport
  rw [timer]
  change (t.timedOut p .started).hold _ _ 3 5 .periodic = _
  unfold Transmitter.hold
  split
  · rfl
  · exact if_pos unstarted

/-- A pending report takes up the periodic cause (R44). -/
theorem Transmitter.expireReport_of_pending {t : Transmitter} {p : PointIndex}
    (pending : ∃ e ∈ t.entries, e.kind = .report p) (unheld : ¬ heldUnstarted t (.report p)) :
    t.expireReport p = t.timedOut p .stopped := by
  have timer : timerAfterExpiry (t.holdsUnstarted (EntryKind.isReport p)) = .stopped :=
    if_neg fun held => unheld (holdsReport_iff.1 held)
  unfold Transmitter.expireReport
  rw [timer]
  exact if_pos (reportPending_iff.2 pending)

/-- With neither, a report of class 5 is appended (R44). -/
theorem Transmitter.expireReport_of_neither {t : Transmitter} {p : PointIndex}
    (absent : ∀ e ∈ t.entries, e.kind ≠ .report p) (unheld : ¬ heldUnstarted t (.report p)) :
    t.expireReport p = (t.timedOut p .stopped).append (.report p) 5 := by
  have unstarted : ¬ t.holdsUnstarted (EntryKind.isReport p) = true := fun held => unheld (holdsReport_iff.1 held)
  have timer : timerAfterExpiry (t.holdsUnstarted (EntryKind.isReport p)) = .stopped := if_neg unstarted
  have unpending : ¬ t.isPending (EntryKind.isReport p) = true := fun pending => by
    obtain ⟨e, mem, is⟩ := reportPending_iff.1 pending
    exact absent e mem is
  unfold Transmitter.expireReport
  rw [timer]
  exact (if_neg unpending).trans (if_neg unstarted)

/-- Where nothing is below the next layer's class there is no preemption (R71). -/
theorem State.preempt_of_lowest {s : State} (lowest : nextIsLowest s.tx) : s.preempt = s := by
  rcases s.preempt_cases with ⟨_, e⟩ | ⟨lf, _, held, due, _⟩
  · exact e
  · obtain ⟨e, mem, lower⟩ := List.any_eq_true.1 due
    exact absurd (lowest lf held e mem) (Nat.not_le.2 (of_decide_eq_true lower))

/-- In every state the report is held after the expiry, and its frame is not lost to preemption (R44 to R46, R71). -/
theorem State.expireReport_isHeld (s : State) (p : PointIndex) :
    isHeld (s.withTx (s.tx.expireReport p)).preempt.tx (.report p) := by
  have due : (s.tx.expireReport p).heldWhere fun e => e.kind = .report p := by
    by_cases unstarted : heldUnstarted s.tx (.report p)
    · rw [Transmitter.expireReport_of_unstarted unstarted]
      exact .inr unstarted
    · by_cases pending : ∃ e ∈ s.tx.entries, e.kind = .report p
      · rw [Transmitter.expireReport_of_pending pending unstarted]
        exact .inl pending
      · rw [Transmitter.expireReport_of_neither (fun e mem is => pending ⟨e, mem, is⟩) unstarted]
        exact .inl ⟨_, List.mem_append_right _ (.head _), rfl⟩
  refine isHeld_iff.2 (Transmitter.heldWhere.preempt (s := s.withTx (s.tx.expireReport p)) due (fun e is => ?_)
    (fun e is => ?_) fun lf _ f _ same either => ?_)
  · rw [State.buildFrame_isSome, is]
    rfl
  · rw [is]
    rfl
  · rcases either with is | is
    · rw [is] at same
      exact keyOf_eq_report_iff.1 same.symm
    · exact is

/-! ### The new report before a frame of a higher class (R67, R71) -/

theorem filter_ne_append {l : List Entry} {new : Entry} (others : new ∉ l) :
    (l ++ [new]).filter (fun g => g ≠ new) = l := by
  rw [List.filter_append, List.filter_cons_of_neg (by simp), List.filter_nil, List.append_nil]
  exact List.filter_eq_self.2 fun g mem => decide_eq_true fun (same : g = new) => others (same ▸ mem)

/-- An entry at the end that leaves again leaves the others as if it had not been there. -/
theorem filter_insertByPlace_append {e new : Entry} {l : List Entry} (apart : e ≠ new) (others : new ∉ l) :
    (insertByPlace e (l ++ [new])).filter (fun g => g ≠ new) = insertByPlace e l := by
  induction l with
  | nil =>
    rw [List.nil_append]
    by_cases earlier : e.place < new.place <;> simp [insertByPlace, earlier, apart]
  | cons f rest ih =>
    obtain ⟨first, rest'⟩ := not_or.1 (List.mem_cons.not.1 others)
    rw [List.cons_append, insertByPlace, insertByPlace]
    split
    · rw [← List.cons_append, List.filter_cons_of_pos (by simpa using apart), filter_ne_append others]
    · rw [List.filter_cons_of_pos (by simpa using Ne.symm first), ih rest']

/-- The one entry of the lowest class is chosen. -/
theorem earliestLowest_of_unique {l : List Entry} {e : Entry} (mem : e ∈ l) (unique : ∀ g ∈ l, g = e ∨ e.cls < g.cls) :
    earliestLowest l = some e := by
  cases found : earliestLowest l with
  | none => rw [earliestLowest_eq_none_iff.1 found] at mem; cases mem
  | some g =>
    obtain ⟨mem', lowest⟩ := earliestLowest_spec found
    rcases unique g mem' with rfl | lower
    · rfl
    · exact absurd (lowest e mem) (Nat.not_le.2 lower)

theorem roundGone_iff {s : State} {kind : EntryKind} : roundGone s kind ↔ ¬ s.roundOpen kind = true := by
  cases kind with
  | request n id tag =>
    rw [State.roundOpen_request, State.roundId]
    constructor
    · rintro ⟨_, _, _, same, closed⟩ opened
      injection same with slot round tag
      subst slot round
      obtain ⟨sec, held, open'⟩ := Option.bind_eq_some_iff.1 opened
      obtain ⟨r, round, number⟩ := Option.map_eq_some_iff.1 open'
      exact closed sec r held round number
    · exact fun closed => ⟨n, id, tag, rfl, fun sec r held round number => closed (by simp [held, round, number])⟩
  | report p | status n | answer requester n p tag =>
    exact ⟨fun ⟨_, _, _, same, _⟩ => (nomatch same), fun closed => absurd rfl closed⟩

/-- The list after a frame has given way: without a request of a closed round, with the entry at its place, or with the
two of one key as one (R67). -/
theorem State.givenWay_cases (s : State) (lf : LayerFrame) :
    (roundGone s lf.entry.kind ∧ (s.givenWay lf).entries = s.tx.entries) ∨
      (¬ roundGone s lf.entry.kind ∧ (∀ f ∈ s.tx.entries, keyOf f.kind ≠ keyOf lf.entry.kind) ∧
        (s.givenWay lf).entries = insertByPlace lf.entry s.tx.entries) ∨
      (¬ roundGone s lf.entry.kind ∧ ∃ f ∈ s.tx.entries, keyOf f.kind = keyOf lf.entry.kind ∧
        (s.givenWay lf).entries =
          insertByPlace (mergeEntries lf.entry f) (s.tx.entries.filter fun g => g ≠ f)) := by
  rw [roundGone_iff, not_not]
  unfold State.givenWay
  by_cases opened : s.roundOpen lf.entry.kind = true
  · rw [if_pos opened]
    rcases ({ s.tx with next := none } : Transmitter).takeBack_cases lf.entry with
      ⟨absent, e⟩ | ⟨f, mem, same, e⟩ <;> rw [e]
    · exact .inr (.inl ⟨opened, absent, rfl⟩)
    · exact .inr (.inr ⟨opened, f, mem, same, rfl⟩)
  · rw [if_neg opened]
    exact .inl ⟨opened, rfl⟩

section NewEntry

variable {l : List Entry} {u : State} {lf : LayerFrame} {new : Entry}

/-- A pending entry of the returning one's key is not the new one. -/
theorem mem_of_mem_append_new {f : Entry} (apart : keyOf lf.entry.kind ≠ keyOf new.kind) (mem : f ∈ l ++ [new])
    (same : keyOf f.kind = keyOf lf.entry.kind) : f ∈ l ∧ new ≠ f := by
  have other : new ≠ f := by
    rintro rfl
    exact apart same.symm
  exact ⟨(List.mem_append.1 mem).resolve_right fun last => other (List.mem_singleton.1 last).symm, other⟩

/-- A new entry of a lower class than all others stays so when a frame has given way. -/
theorem State.givenWay_lowest (entries : u.tx.entries = l ++ [new]) (higher : ∀ e ∈ l, new.cls < e.cls)
    (higher' : new.cls < lf.entry.cls) (apart : keyOf lf.entry.kind ≠ keyOf new.kind) :
    new ∈ (u.givenWay lf).entries ∧ ∀ g ∈ (u.givenWay lf).entries, g = new ∨ new.cls < g.cls := by
  have last : new ∈ u.tx.entries := by
    rw [entries]
    exact List.mem_append_right _ (.head _)
  have listed : ∀ g ∈ u.tx.entries, g = new ∨ new.cls < g.cls := fun g mem => by
    rw [entries] at mem
    exact (List.mem_append.1 mem).elim (fun mem => .inr (higher g mem)) fun mem => .inl (List.mem_singleton.1 mem)
  rcases u.givenWay_cases lf with ⟨_, e⟩ | ⟨_, _, e⟩ | ⟨_, f, mem, same, e⟩ <;> rw [e]
  · exact ⟨last, listed⟩
  · have put := insertByPlace_perm lf.entry u.tx.entries
    refine ⟨put.mem_iff.2 (.tail _ last), fun g mem => ?_⟩
    rcases List.mem_cons.1 (put.mem_iff.1 mem) with rfl | mem
    · exact .inr higher'
    · exact listed g mem
  · have put := insertByPlace_perm (mergeEntries lf.entry f) (u.tx.entries.filter fun g => g ≠ f)
    obtain ⟨mem', other⟩ := mem_of_mem_append_new apart (entries ▸ mem) same
    refine ⟨put.mem_iff.2 (.tail _ (List.mem_filter.2 ⟨last, decide_eq_true other⟩)), fun g mem => ?_⟩
    rcases List.mem_cons.1 (put.mem_iff.1 mem) with rfl | mem
    · exact .inr (lt_min higher' (higher f mem'))
    · exact listed g (List.mem_filter.1 mem).1

/-- Without the new entry the list is the former one with what has given way (R67). -/
theorem State.givenWay_returned {s : State} (entries : u.tx.entries = s.tx.entries ++ [new])
    (sections : u.sections = s.sections) (higher : ∀ e ∈ s.tx.entries, new.cls < e.cls)
    (higher' : new.cls < lf.entry.cls) (apart : keyOf lf.entry.kind ≠ keyOf new.kind) :
    returnedTo s lf ((u.givenWay lf).entries.filter fun g => g ≠ new) := by
  have others : new ∉ s.tx.entries := fun mem => lt_irrefl _ (higher new mem)
  have gone : roundGone u lf.entry.kind ↔ roundGone s lf.entry.kind := by
    unfold roundGone
    rw [sections]
  have above {e : Entry} (lower : new.cls < e.cls) : e ≠ new := by
    rintro rfl
    exact lt_irrefl _ lower
  rcases u.givenWay_cases lf with ⟨closed, e⟩ | ⟨opened, absent, e⟩ | ⟨opened, f, mem, same, e⟩ <;> rw [e, entries]
  · rw [filter_ne_append others]
    exact ⟨fun _ => rfl, fun opened => absurd (gone.1 closed) opened⟩
  · rw [filter_insertByPlace_append (above higher') others]
    refine ⟨fun closed => absurd (gone.2 closed) opened,
      fun _ => ⟨fun _ => insertByPlace_placedIn _ _, fun g mem unique => ?_⟩⟩
    exact absurd ((unique g mem).2 rfl) (absent g (by rw [entries]; exact List.mem_append_left _ mem))
  · obtain ⟨mem', other⟩ := mem_of_mem_append_new apart (entries ▸ mem) same
    have left : (s.tx.entries ++ [new]).filter (fun g => g ≠ f) = s.tx.entries.filter (fun g => g ≠ f) ++ [new] := by
      rw [List.filter_append, List.filter_cons_of_pos (by simpa using other), List.filter_nil]
    have lower : new.cls < (mergeEntries lf.entry f).cls := lt_min higher' (higher f mem')
    rw [left, filter_insertByPlace_append (above lower) fun mem => others (List.mem_filter.1 mem).1]
    refine ⟨fun closed => absurd (gone.2 closed) opened,
      fun _ => ⟨fun absent => absurd same (absent f mem'), fun g _ unique => ?_⟩⟩
    obtain rfl := (unique f mem').1 same
    exact insertByPlace_placedIn _ _

end NewEntry

/-- A new report that preempts is loaded at once, and its timer starts again (R42, R71). -/
theorem State.expireReport_preempts {s : State} (running : s.mode = .running) {p : PointIndex}
    (higher : ∀ e ∈ s.tx.entries, e.kind ≠ .report p ∧ 5 < e.cls) (unheld : ¬ heldUnstarted s.tx (.report p))
    {lf : LayerFrame} (held : s.tx.next = some lf) (higher' : 5 < lf.entry.cls) :
    ∃ f, (s.withTx (s.tx.expireReport p)).preempt.tx.next = some ⟨⟨.report p, 5, s.tx.nextPlace⟩, f⟩ ∧
      s.buildFrame ⟨.report p, 5, s.tx.nextPlace⟩ = some f ∧
      returnedTo s lf (s.withTx (s.tx.expireReport p)).preempt.tx.entries ∧
      (s.withTx (s.tx.expireReport p)).preempt.tx.reportTimers = s.tx.reportTimers.set p .started ∧
      (s.withTx (s.tx.expireReport p)).preempt.tx.live = s.tx.live := by
  rw [Transmitter.expireReport_of_neither (fun e mem => (higher e mem).1) unheld]
  let new : Entry := ⟨.report p, 5, s.tx.nextPlace⟩
  let u := s.withTx ((s.tx.timedOut p .stopped).append (.report p) 5)
  change ∃ f, u.preempt.tx.next = some ⟨new, f⟩ ∧ s.buildFrame new = some f ∧ returnedTo s lf u.preempt.tx.entries ∧
    u.preempt.tx.reportTimers = s.tx.reportTimers.set p .started ∧ u.preempt.tx.live = s.tx.live
  have entries : u.tx.entries = s.tx.entries ++ [new] := rfl
  have next : u.tx.next = some lf := held
  have apart : keyOf lf.entry.kind ≠ keyOf new.kind := fun same =>
    unheld ⟨lf, keyOf_eq_report_iff.1 same, .inl held⟩
  have lower : ∀ e ∈ s.tx.entries, new.cls < e.cls := fun e mem => (higher e mem).2
  obtain ⟨mem, unique⟩ := State.givenWay_lowest entries lower higher' apart
  have returned := State.givenWay_returned entries rfl lower higher' apart
  have built : (u.withTx (u.givenWay lf)).buildFrame new = s.buildFrame new :=
    s.buildFrame_withTx (x := u.givenWay lf) (by rw [State.givenWay_keeps]; rfl) new
  obtain ⟨f, report⟩ : ∃ f, s.buildFrame new = some f := ⟨_, rfl⟩
  have gives : u.preempt = (u.withTx (u.givenWay lf)).loadNext := by
    rcases u.preempt_cases with ⟨lowest, _⟩ | ⟨lf', _, next', _, e⟩
    · exact absurd (lowest running lf next new (List.mem_append_right _ (.head _))) (Nat.not_le.2 higher')
    · obtain rfl := Option.some.inj (next.symm.trans next')
      exact e
  rcases (u.withTx (u.givenWay lf)).loadNext_cases with ⟨empty, _⟩ | ⟨e, chosen, loaded⟩
  · rw [State.withTx_tx] at empty
    rw [empty] at mem
    cases mem
  · obtain rfl := Option.some.inj (chosen.symm.trans (earliestLowest_of_unique mem unique))
    rw [gives, loaded, built, report]
    refine ⟨f, rfl, rfl, returned, ?_, ?_⟩
    · change (u.givenWay lf).reportTimers.set p .started = _
      rw [State.givenWay_keeps]
      exact Table.set_set _ _ _ _
    · change (u.givenWay lf).live = _
      rw [State.givenWay_keeps]
      rfl

/-- Settles O20: by what takes up the expiry, and the new report that is loaded before a frame of a higher class. -/
theorem reportTimerExpiryCompletes : Obligations.ReportTimerExpiryCompletes := by
  intro s p running timer
  rw [exec_reportTimerExpiry running timer]
  refine ⟨fun lowest => ⟨fun pending unheld => ?_, fun held => ?_, fun absent unheld stays => ?_⟩,
    fun higher unheld lf held higher' => ?_, ⟨_, rfl, s.expireReport_isHeld p, State.preempt_lowest running⟩⟩
  · rw [Transmitter.expireReport_of_pending pending unheld]
    exact congrArg Host.Outcome.next (State.preempt_of_lowest (by exact lowest))
  · rw [Transmitter.expireReport_of_unstarted held]
    exact congrArg Host.Outcome.next (State.preempt_of_lowest (by exact lowest))
  · rw [Transmitter.expireReport_of_neither absent unheld]
    refine congrArg Host.Outcome.next (State.preempt_of_lowest fun lf held e mem => ?_)
    rcases List.mem_append.1 mem with mem | mem
    · exact lowest lf held e mem
    · rw [List.mem_singleton.1 mem]
      exact stays.2 lf held
  · obtain ⟨f, next, report, returned, timers, live⟩ := State.expireReport_preempts running higher unheld held higher'
    exact ⟨_, f, rfl, next, report, returned, timers, live⟩

end Sys2Proof.Machine

namespace Sys2Proof.Machine

open Sys2Proof.Claims

/-! ## Proofs: access to the field line and its frames -/

/-! ### The receiver at the line (R60, R81 to R84) -/

/-- What the receiver assembles and the idle count agree with each other. -/
structure Receiver.LineSound (r : Receiver) : Prop where
  idle : r.idleCount ≤ Config.idleBits
  busy : r.inCharacter = true → r.idleCount = 0
  hunting : r.assembling = false → r.buffer = []
  assembled : ∀ l ∈ frameLength r.buffer, 7 ≤ l ∧ l ≤ 13 ∧ r.buffer.length < l

theorem frameLength_nil : frameLength [] = none := rfl

theorem frameLength_singleton (a : Byte) : frameLength [a] = none := rfl

theorem frameLength_cons_cons (a l : Byte) (rest : List Byte) : frameLength (a :: l :: rest) = some (l.toNat + 4) := rfl

/-- Once the length byte is there a further byte leaves the length fixed (R83). -/
theorem frameLength_append {buffer : List Byte} (fixed : 2 ≤ buffer.length) (b : Byte) :
    frameLength (buffer ++ [b]) = frameLength buffer := by
  match buffer, fixed with
  | _ :: _ :: _, _ => rfl

theorem goodLength_iff {b : Byte} : goodLength b = true ↔ 3 ≤ b.toNat ∧ b.toNat ≤ 9 := by simp [goodLength]

theorem Receiver.atLength_iff {r : Receiver} :
    r.atLength = true ↔ r.assembling = true ∧ r.inCharacter = true ∧ r.buffer.length = 1 := by
  simp [Receiver.atLength, and_assoc]

theorem Receiver.completes_iff {r : Receiver} {b : Byte} :
    r.completes b = true ↔ r.assembling = true ∧ r.inCharacter = true ∧ 2 ≤ r.buffer.length ∧
      frameLength (r.buffer ++ [b]) = some (r.buffer.length + 1) := by
  simp [Receiver.completes, and_assoc]

namespace Receiver.LineSound

variable {r : Receiver}

/-- HUNTING with an empty buffer is sound, whatever else the receiver holds. -/
theorem of_hunting (idle : r.idleCount ≤ Config.idleBits) (busy : r.inCharacter = true → r.idleCount = 0)
    (empty : r.buffer = []) : r.LineSound where
  idle := idle
  busy := busy
  hunting := fun _ => empty
  assembled := by
    rw [empty]
    exact fun _ fixed => nomatch fixed

theorem of_same (sound : r.LineSound) {q : Receiver} (assembling : q.assembling = r.assembling)
    (buffer : q.buffer = r.buffer) (inCharacter : q.inCharacter = r.inCharacter)
    (idleCount : q.idleCount = r.idleCount) : q.LineSound where
  idle := idleCount ▸ sound.idle
  busy := by rw [inCharacter, idleCount]; exact sound.busy
  hunting := by rw [assembling, buffer]; exact sound.hunting
  assembled := by rw [buffer]; exact sound.assembled

theorem takeStart (sound : r.LineSound) (one : Bool) : (r.takeStart one).LineSound := by
  rcases r.takeStart_cases one with ⟨_, _, e⟩ | ⟨_, _, e⟩ | ⟨_, ha, e⟩ | ⟨_, _, _, e⟩ | ⟨_, _, _, e⟩ <;> rw [e]
  · exact .of_hunting (Nat.zero_le _) (fun _ => rfl) rfl
  · exact ⟨Nat.zero_le _, fun _ => rfl, sound.hunting, sound.assembled⟩
  · exact ⟨Nat.zero_le _, fun _ => rfl, sound.hunting, sound.assembled⟩
  · exact .of_hunting (Nat.zero_le _) (fun _ => rfl) rfl
  · exact ⟨Nat.zero_le _, fun _ => rfl, sound.hunting, sound.assembled⟩

/-- A byte that is no bad length byte and does not complete the frame leaves it short of its length (R82, R83). -/
theorem takeByte (sound : r.LineSound) {b : Byte} (inCharacter : r.inCharacter = true)
    (short : r.completes b = false) (good : r.atLength = true → goodLength b = true) : (r.takeByte b).LineSound := by
  cases assembling : r.assembling with
  | false =>
    have empty : (r.takeByte b).buffer = [] := by simp [Receiver.takeByte, assembling, sound.hunting assembling]
    exact .of_hunting (Nat.zero_le _) (fun _ => rfl) empty
  | true =>
    have buffer : (r.takeByte b).buffer = r.buffer ++ [b] := by simp [Receiver.takeByte, assembling]
    refine ⟨Nat.zero_le _, fun _ => rfl, fun (hunting : r.assembling = false) => ?_, ?_⟩
    · exact nomatch assembling.symm.trans hunting
    rw [buffer]
    intro l fixed
    match bytes : r.buffer with
    | [] => rw [bytes] at fixed; cases fixed
    | [a] =>
      have atLength := Receiver.atLength_iff.2 ⟨assembling, inCharacter, by rw [bytes]; rfl⟩
      obtain ⟨low, high⟩ := goodLength_iff.1 (good atLength)
      rw [bytes] at fixed
      obtain rfl := Option.some.inj fixed
      simp only [List.cons_append, List.nil_append, List.length_cons, List.length_nil]
      omega
    | a :: c :: rest =>
      have two : 2 ≤ r.buffer.length := by simp [bytes]
      have more : frameLength (r.buffer ++ [b]) ≠ some (r.buffer.length + 1) := fun last => by
        rw [Receiver.completes_iff.2 ⟨assembling, inCharacter, two, last⟩] at short
        cases short
      rw [frameLength_append two] at fixed more
      obtain ⟨low, high, room⟩ := sound.assembled l fixed
      rw [fixed] at more
      simp only [List.length_append, List.length_singleton, ← bytes]
      exact ⟨low, high, Nat.lt_of_le_of_ne room fun last => more (by rw [last])⟩

end Receiver.LineSound

/-! ### The frames that wait (R84 to R87) -/

/-- The FIFO holds at most two frames and none while the handler is free, all of them good. -/
structure Receiver.WaitSound (good : List Byte → Prop) (r : Receiver) : Prop where
  fifo : r.fifo.length ≤ Config.fifoCapacity
  taken : r.handling = none → r.fifo = []
  queued : ∀ bytes ∈ r.fifo, good bytes
  handled : ∀ bytes ∈ r.handling, good bytes

namespace Receiver.WaitSound

variable {good good' : List Byte → Prop} {r q : Receiver}

theorem of_empty (fifo : r.fifo = []) (handling : r.handling = none) : r.WaitSound good where
  fifo := by simp [fifo]
  taken := fun _ => fifo
  queued := by simp [fifo]
  handled := by simp [handling]

theorem of_same (sound : r.WaitSound good) (fifo : q.fifo = r.fifo) (handling : q.handling = r.handling)
    (mono : ∀ bytes, good bytes → good' bytes) : q.WaitSound good' where
  fifo := fifo ▸ sound.fifo
  taken := by rw [handling, fifo]; exact sound.taken
  queued := by rw [fifo]; exact fun bytes mem => mono bytes (sound.queued bytes mem)
  handled := by rw [handling]; exact fun bytes held => mono bytes (sound.handled bytes held)

/-- A free handler takes the oldest frame, so that none waits behind it (R87). -/
theorem takeUp (room : r.fifo.length ≤ Config.fifoCapacity) (queued : ∀ bytes ∈ r.fifo, good bytes)
    (handled : ∀ bytes ∈ r.handling, good bytes) : r.takeUp.WaitSound good := by
  rcases r.takeUp_cases with ⟨oldest, rest, _, fifo, e⟩ | ⟨busy, e⟩ <;> rw [e]
  · rw [fifo] at room queued
    refine ⟨Nat.le_of_succ_le room, fun free => (nomatch free), fun bytes mem => queued bytes (.tail _ mem),
      fun bytes held => ?_⟩
    obtain rfl := Option.some.inj held
    exact queued _ (.head _)
  · refine ⟨room, fun free => busy.resolve_left ?_, queued, handled⟩
    simp [free]

/-- A good frame is admitted, or is an overrun (R87). -/
theorem enqueue (sound : r.WaitSound good) {bytes : List Byte} (isGood : good bytes) :
    (r.enqueue bytes).WaitSound good := by
  rcases r.enqueue_cases bytes with ⟨_, e⟩ | ⟨room, e⟩ <;> rw [e]
  · exact sound
  · refine takeUp ?_ (fun other mem => ?_) sound.handled
    · simpa [Config.fifoCapacity] using room
    · rcases List.mem_append.1 mem with mem | mem
      · exact sound.queued other mem
      · exact List.mem_singleton.1 mem ▸ isGood

end Receiver.WaitSound

/-- A start bit leaves the waiting frames alone (R81, R82). -/
theorem Receiver.takeStart_wait (r : Receiver) (one : Bool) :
    (r.takeStart one).fifo = r.fifo ∧ (r.takeStart one).handling = r.handling := by
  unfold Receiver.takeStart
  dsimp only
  split_ifs <;> exact ⟨rfl, rfl⟩

/-- Admission leaves the receiver's part at the line alone (R87). -/
theorem Receiver.enqueue_line (r : Receiver) (bytes : List Byte) :
    (r.enqueue bytes).assembling = r.assembling ∧ (r.enqueue bytes).buffer = r.buffer ∧
      (r.enqueue bytes).inCharacter = r.inCharacter ∧ (r.enqueue bytes).idleCount = r.idleCount := by
  rcases r.enqueue_cases bytes with ⟨_, e⟩ | ⟨_, e⟩ <;> rw [e]
  · exact ⟨rfl, rfl, rfl, rfl⟩
  · rcases ({ r with fifo := r.fifo ++ [bytes] } : Receiver).takeUp_cases with ⟨_, _, _, _, e⟩ | ⟨_, e⟩ <;> rw [e] <;>
      exact ⟨rfl, rfl, rfl, rfl⟩

/-! ### The receiver in the state (R101 to R103) -/

theorem GoodFrame.of_station {s t : State} (station : t.station = s.station) {bytes : List Byte}
    (good : GoodFrame s bytes) : GoodFrame t bytes :=
  ⟨good.crc, good.long, good.short, by rw [station]; exact good.foreign⟩

theorem GoodFrame.withRx {s : State} {bytes : List Byte} (good : GoodFrame s bytes) (x : Receiver) :
    GoodFrame (s.withRx x) bytes := good.of_station (s.withRx_station x)

namespace RxSound

variable {s t : State}

theorem line (sound : RxSound s) : s.rx.LineSound := ⟨sound.idle, sound.busy, sound.hunting, sound.assembled⟩

theorem wait (sound : RxSound s) : s.rx.WaitSound (GoodFrame s) :=
  ⟨sound.fifo, sound.taken, sound.queued, sound.handled⟩

/-- A part that observes the line is asked for no more than the two parts. -/
theorem of_listening (listens : t.mode.listens = true) (line : t.rx.LineSound) (wait : t.rx.WaitSound (GoodFrame t)) :
    RxSound t :=
  ⟨wait.fifo, wait.taken, wait.queued, wait.handled, line.idle, line.busy, line.hunting, line.assembled,
    fun deaf => nomatch listens.symm.trans deaf⟩

/-- A receiver that holds nothing is sound in every mode and at every station (R102, R103). -/
theorem of_empty (assembling : t.rx.assembling = false) (buffer : t.rx.buffer = [])
    (inCharacter : t.rx.inCharacter = false) (fifo : t.rx.fifo = []) (handling : t.rx.handling = none) (idle : t.rx.idleCount ≤ Config.idleBits) : RxSound t :=
  have line : t.rx.LineSound := .of_hunting idle (fun busy => nomatch inCharacter.symm.trans busy) buffer
  have wait : t.rx.WaitSound (GoodFrame t) := .of_empty fifo handling
  ⟨wait.fifo, wait.taken, wait.queued, wait.handled, line.idle, line.busy, line.hunting, line.assembled,
    fun _ => ⟨assembling, inCharacter, fifo, handling⟩⟩

/-- Where nothing is observed the receiver holds nothing, and may be taken on in any mode. -/
theorem of_deaf (sound : RxSound s) (deaf : s.mode.listens = false) (rx : t.rx = s.rx) : RxSound t := by
  obtain ⟨assembling, inCharacter, fifo, handling⟩ := sound.stopped deaf
  exact .of_empty (rx ▸ assembling) (rx ▸ sound.hunting assembling) (rx ▸ inCharacter) (rx ▸ fifo) (rx ▸ handling)
    (rx ▸ sound.idle)

/-- An event that leaves receiver, station and observation alone. -/
theorem of_same (sound : RxSound s) (rx : t.rx = s.rx) (station : t.station = s.station)
    (listens : t.mode.listens = s.mode.listens) : RxSound t := by
  cases observes : s.mode.listens with
  | false => exact sound.of_deaf observes rx
  | true =>
    exact .of_listening (listens.trans observes) (rx ▸ sound.line)
      (sound.wait.of_same (by rw [rx]) (by rw [rx]) fun _ good => good.of_station station)

/-- What the receiver does at the line leaves the waiting frames alone. -/
theorem withRx_line (sound : RxSound s) (listens : s.mode.listens = true) {x : Receiver} (line : x.LineSound)
    (fifo : x.fifo = s.rx.fifo) (handling : x.handling = s.rx.handling) : RxSound (s.withRx x) :=
  .of_listening listens line (sound.wait.of_same fifo handling fun _ good => good.withRx x)

theorem driveAttn (sound : RxSound s) : RxSound s.driveAttn := sound.of_same rfl rfl rfl

/-- The entry to HALTED loses everything the receiver held (R102). -/
theorem enterHalted (sound : RxSound s) (cause : HaltCause) : RxSound (s.enterHalted cause) := by
  by_cases halted : s.mode = .halted
  · rwa [State.enterHalted_again halted]
  · rw [State.enterHalted_eq halted]
    exact .of_empty rfl rfl rfl rfl rfl sound.idle

/-- The memory of the frame just sent is no part of it (log 11). -/
theorem completeFrame (sound : RxSound s) (lf : LayerFrame) : RxSound (s.completeFrame lf) := by
  have rx : (s.completeFrame lf).rx = s.rx ∨ (s.completeFrame lf).rx = { s.rx with sent := some lf.frame.encode } := by
    rw [State.completeFrame_eq, State.spendStart_rx, State.sentFrame]
    dsimp only
    split
    · exact .inr rfl
    · exact .inl rfl
  have station : (s.completeFrame lf).station = s.station := by
    rw [State.completeFrame_eq, State.spendStart_station, State.sentFrame]
    dsimp only
    split <;> rfl
  have mode := congrArg Mode.listens (s.completeFrame_mode lf)
  rcases rx with rx | rx
  · exact sound.of_same rx station mode
  · have noted : RxSound (s.withRx { s.rx with sent := some lf.frame.encode }) :=
      ⟨sound.fifo, sound.taken, fun bytes mem => (sound.queued bytes mem).withRx _,
        fun bytes held => (sound.handled bytes held).withRx _, sound.idle, sound.busy, sound.hunting, sound.assembled,
        sound.stopped⟩
    exact noted.of_same rx station mode

/-- The handler becomes free and takes the oldest waiting frame (R87). -/
theorem finishHandling (sound : RxSound s) (listens : s.mode.listens = true) : RxSound s.finishHandling := by
  have line : ({ s.rx with handling := none } : Receiver).takeUp.LineSound := by
    rcases ({ s.rx with handling := none } : Receiver).takeUp_cases with ⟨_, _, _, _, e⟩ | ⟨_, e⟩ <;> rw [e] <;>
      exact sound.line.of_same rfl rfl rfl rfl
  exact .of_listening listens line
    (.takeUp (r := { s.rx with handling := none }) sound.fifo
      (fun bytes mem => (sound.queued bytes mem).withRx _) fun _ held => nomatch held)

/-- The end of a handling, whose effect is on other blocks. -/
theorem endHandling (sound : RxSound s) (ofClass : Nat → Bool) {effect : Received → State → State}
    (kept : ∀ f, (effect f s).rx = s.rx ∧ (effect f s).station = s.station ∧ (effect f s).mode = s.mode) :
    RxSound (s.endHandling ofClass effect) := by
  rcases s.endHandling_cases ofClass effect with ⟨e, _⟩ | ⟨_, _, listens, _, ⟨_, e⟩ | ⟨f, _, e⟩⟩ <;> rw [e]
  · exact sound
  · exact sound.finishHandling listens
  · obtain ⟨rx, station, mode⟩ := kept f
    have taken : RxSound (effect f s) := sound.of_same rx station (by rw [mode])
    exact ((taken.finishHandling (by rw [mode, listens])).of_same (State.preempt_rx _) (State.preempt_station _)
      (by rw [State.preempt_mode])).driveAttn

/-- A good frame of another station is admitted, or is an overrun (R87). -/
theorem takeIn (sound : RxSound s) (listens : s.mode.listens = true) {bytes : List Byte} (good : GoodFrame s bytes) :
    RxSound (s.withRx (s.rx.enqueue bytes)) := by
  obtain ⟨same, empty, outside, idle⟩ := s.rx.enqueue_line bytes
  exact .of_listening listens (sound.line.of_same same empty outside idle)
    ((sound.wait.of_same rfl rfl fun _ good => good.withRx _).enqueue (good.withRx _))

/-- A character of full length is a frame, and one of another station with a good check waits (R84 to R87). -/
theorem judgeFrame (sound : RxSound s) (listens : s.mode.listens = true) {b : Byte} (whole : s.rx.completes b = true) :
    RxSound ((s.withRx (s.rx.takeByte b)).judgeFrame (s.rx.takeByte b).buffer) := by
  obtain ⟨assembling, _, two, last⟩ := Receiver.completes_iff.1 whole
  have buffer : (s.rx.takeByte b).buffer = s.rx.buffer ++ [b] := if_pos assembling
  have hunting : RxSound (s.withRx { (s.rx.takeByte b).discard with sent := none }) :=
    sound.withRx_line listens (.of_hunting (Nat.zero_le _) (fun _ => rfl) rfl) rfl rfl
  rcases State.judgeFrame_cases (s.withRx (s.rx.takeByte b)) (s.rx.takeByte b).buffer with
    ⟨_, e⟩ | ⟨_, _, _, e⟩ | ⟨_, _, _, e⟩ | ⟨check, foreign, e⟩ <;> rw [e]
  · exact hunting
  · exact hunting
  · exact (hunting.enterHalted _).driveAttn
  · rw [frameLength_append two] at last
    obtain ⟨long, short, _⟩ := sound.assembled _ last
    have length : (s.rx.takeByte b).buffer.length = s.rx.buffer.length + 1 := by simp [buffer]
    have good : GoodFrame s (s.rx.takeByte b).buffer := ⟨check, length ▸ long, length ▸ short, foreign⟩
    exact hunting.takeIn listens (good.withRx _)

/-- The end of a character (R82 to R87). -/
theorem takeCharacter (sound : RxSound s) (listens : s.mode.listens = true) (inCharacter : s.rx.inCharacter = true)
    (b : Byte) : RxSound (s.takeCharacter b) := by
  rcases s.takeCharacter_cases b with ⟨_, _, e⟩ | ⟨whole, e⟩ | ⟨short, good, e⟩ <;> rw [e]
  · exact sound.withRx_line listens (.of_hunting (Nat.zero_le _) (fun _ => rfl) rfl) rfl rfl
  · exact sound.judgeFrame listens whole
  · exact sound.withRx_line listens (sound.line.takeByte inCharacter short good) rfl rfl

end RxSound

/-! ### Receiver and station at the operations of other blocks -/

@[simp] theorem State.present_rx (s : State) (source : Station) (c : PointContent) :
    (s.present source c).rx = s.rx := by
  rw [State.present_eq]
  rfl

@[simp] theorem State.present_station (s : State) (source : Station) (c : PointContent) :
    (s.present source c).station = s.station := by
  rw [State.present_eq]
  rfl

theorem handleCountReport_rx (f : Received) (s : State) :
    (handleCountReport f s).rx = s.rx ∧ (handleCountReport f s).station = s.station := by
  cases f <;> simp [handleCountReport]

theorem handleSettleAnswer_rx (f : Received) (s : State) :
    (handleSettleAnswer f s).rx = s.rx ∧ (handleSettleAnswer f s).station = s.station := by
  cases f <;> simp [handleSettleAnswer, State.answerRound, apply_ite State.rx, apply_ite State.station]

theorem handleSettleRequest_rx (f : Received) (s : State) :
    (handleSettleRequest f s).rx = s.rx ∧ (handleSettleRequest f s).station = s.station := by
  unfold handleSettleRequest
  split
  · rw [foldl_answerPoint_eq]
    simp [apply_ite State.rx, apply_ite State.station]
  · exact ⟨rfl, rfl⟩

theorem handleRestoreCommand_rx (f : Received) (s : State) :
    (handleRestoreCommand f s).rx = s.rx ∧ (handleRestoreCommand f s).station = s.station := by
  cases f <;> simp [handleRestoreCommand, apply_ite State.rx, apply_ite State.station]

theorem State.completeSweep_rx (s : State) (r : Results) :
    (s.completeSweep r).rx = s.rx ∧ (s.completeSweep r).station = s.station := by
  cases listens : s.mode.listens
  · rw [State.completeSweep_silent listens]
    exact ⟨rfl, rfl⟩
  · rw [State.completeSweep_eq listens]
    exact ⟨rfl, rfl⟩

theorem State.expireAge_rx (s : State) (m : EntryIndex) (e : MirrorEntry) :
    (s.expireAge m e).rx = s.rx ∧ (s.expireAge m e).station = s.station := by
  unfold State.expireAge
  split <;> simp

/-! ### The receiver at every command (O57) -/

/-- A recessive bit time counts towards an idle line outside a character alone (R60). -/
theorem RxSound.idleStep {s : State} (sound : RxSound s) : RxSound s.idleStep := by
  unfold State.idleStep
  split
  · exact sound.of_same rfl rfl rfl
  · have ticked : RxSound (s.withRx s.idleTick) := by
      unfold State.idleTick
      split
      · rename_i counts
        obtain ⟨observed, room⟩ := Bool.and_eq_true_iff.1 counts
        obtain ⟨listens, outside, _⟩ := s.countsIdle_iff.1 observed
        refine sound.withRx_line listens ⟨Nat.le_of_lt (of_decide_eq_true room), fun busy => ?_, sound.hunting,
          sound.assembled⟩ rfl rfl
        exact nomatch outside.symm.trans busy
      · exact sound
    exact ticked.of_same rfl rfl rfl

/-- Every command keeps the receiver sound. -/
theorem exec_rxSound (c : Instr) {s t : State} (h : exec c s = .next t) (sound : RxSound s) : RxSound t := by
  have orKept {u : State} {c : Prop} [Decidable c] (taken : c → RxSound u) : RxSound (if c then u else s) := by
    split
    · exact taken ‹_›
    · exact sound
  have swept (r : Results) : RxSound (s.completeSweep r) :=
    sound.of_same (s.completeSweep_rx r).1 (s.completeSweep_rx r).2 (by rw [State.completeSweep_mode])
  have driven {u : State} (rx : u.rx = s.rx) (station : u.station = s.station) (mode : u.mode = s.mode) :
      RxSound u.preempt.driveAttn :=
    (sound.of_same (t := u.preempt) (by rw [State.preempt_rx, rx]) (by rw [State.preempt_station, station])
      (by rw [State.preempt_mode, mode])).driveAttn
  have muted : RxSound s.enterMute := by
    have stopped : RxSound (s.withTx
        { s.tx with state := .mute, failures := s.tx.failures + 1, live := none, next := none }) :=
      sound.of_same rfl rfl rfl
    exact (stopped.enterHalted .mute).driveAttn
  cases c <;> obtain rfl := Host.Outcome.next.inj h
  case resetAssertion k => exact orKept fun _ => .of_empty rfl rfl rfl rfl rfl (Nat.zero_le _)
  case resetRelease straps =>
    refine orKept fun held => ?_
    split
    · exact (sound.enterHalted _).driveAttn
    · exact sound.of_deaf (by rw [held]; rfl) rfl
  case configurationReadComplete levels =>
    refine orKept fun _ => ?_
    split
    · exact sound.of_same rfl rfl rfl
    · exact (sound.enterHalted _).driveAttn
  case loadingTimerExpiry => exact orKept fun due => sound.of_deaf (by rw [due.1]; rfl) rfl
  case listeningTimerExpiry => exact orKept fun due => sound.of_same rfl rfl (by rw [due.1]; rfl)
  case sweepCompletion r => exact swept r
  case filteredLevelChange r _ _ | channelFaulted r _ _ | channelRecovered r _ _ | referenceFaulted r
      | referenceRecovered r | dwellEnd r _ | toggleHalfPeriod r _ => exact orKept fun _ => swept r
  case reportTimerExpiry | statusTimerExpiry =>
    exact orKept fun _ =>
      sound.of_same (State.preempt_rx _) (State.preempt_station _) (by rw [State.preempt_mode]; rfl)
  case ageTimerExpiry m =>
    split
    · exact sound
    · rename_i e _
      refine orKept fun _ => ?_
      split
      · exact sound.of_same rfl rfl rfl
      · exact sound.of_same (s.expireAge_rx m e).1 (s.expireAge_rx m e).2 (by rw [State.expireAge_mode])
  case deadlineExpiry n | holdOffExpiry n =>
    split
    · exact sound
    · exact orKept fun _ =>
        driven (State.applySection_rx _ _ _) (State.applySection_station _ _ _) (State.applySection_mode _ _ _)
  case nextLayerLoad =>
    exact orKept fun _ => sound.of_same (State.loadNext_rx _) (State.loadNext_station _) (by rw [State.loadNext_mode])
  case liveLayerMove | arbitrationWon | lostArbitration => exact orKept fun _ => sound.of_same rfl rfl rfl
  case idleCompletion =>
    refine orKept fun due => ?_
    have idle : RxSound (s.withRx s.rx.idle) :=
      sound.withRx_line due.1 (.of_hunting le_rfl (fun busy => nomatch due.2.symm.trans busy) rfl) rfl rfl
    exact idle.of_same rfl rfl rfl
  case bitError position samples =>
    refine orKept fun _ => ?_
    split
    · unfold State.abortFrame
      split
      · exact muted
      · exact sound.of_same rfl rfl rfl
    · exact orKept fun _ => sound.of_same rfl rfl rfl
  case mute position samples => exact orKept fun _ => muted
  case frameCompletion samples =>
    split
    · exact sound
    · exact orKept fun _ => sound.completeFrame _
  case framingError bit samples =>
    have discarded (listens : s.mode.listens = true) : RxSound (s.withRx s.rx.framingError) :=
      sound.withRx_line listens (.of_hunting (Nat.zero_le _) (fun _ => rfl) rfl) rfl rfl
    split <;> exact orKept fun due => discarded due.1
  case badLength data =>
    exact orKept fun due => sound.takeCharacter due.1 (Receiver.atLength_iff.1 due.2.1).2.1 _
  case receiverFrameComplete data =>
    exact orKept fun due => sound.takeCharacter due.1 (Receiver.completes_iff.1 due.2).2.1 _
  case characterComplete data => exact orKept fun due => sound.takeCharacter due.1 due.2 _
  case startBit dominantSamples samples =>
    obtain ⟨fifo, handling⟩ := s.rx.takeStart_wait (bitValue samples)
    exact orKept fun due => sound.withRx_line due.1 (sound.line.takeStart _) fifo handling
  case countReport =>
    exact sound.endHandling _ fun f => ⟨(handleCountReport_rx f s).1, (handleCountReport_rx f s).2,
      handleCountReport_mode f s⟩
  case settleAnswer =>
    exact sound.endHandling _ fun f => ⟨(handleSettleAnswer_rx f s).1, (handleSettleAnswer_rx f s).2,
      handleSettleAnswer_mode f s⟩
  case settleRequest =>
    exact sound.endHandling _ fun f => ⟨(handleSettleRequest_rx f s).1, (handleSettleRequest_rx f s).2,
      handleSettleRequest_mode f s⟩
  case restoreCommand =>
    exact sound.endHandling _ fun f => ⟨(handleRestoreCommand_rx f s).1, (handleRestoreCommand_rx f s).2,
      handleRestoreCommand_mode f s⟩
  case sectionStatus | class7FrameHandled => exact sound.endHandling _ fun _ => ⟨rfl, rfl, rfl⟩

/-- Settles O57: what the receiver does at the line and what it does with whole frames, command by command. -/
theorem receiverStaysSound : Obligations.ReceiverStaysSound := by
  intro s t sound h
  unfold step at h
  split at h
  · obtain rfl := Host.Outcome.next.inj h
    exact sound.idleStep
  · rename_i c queue _
    exact exec_rxSound c h (sound.of_same (t := { s with pending := queue }) rfl rfl rfl)

end Sys2Proof.Machine

namespace Sys2Proof.Machine

open Sys2Proof.Claims

/-! ### The bits of the live frame (R59, R72, R74) -/

/-- The first nine bits of a frame are those of arbitration: the start bit and the arbitration byte (R59, R61). -/
theorem frameBit_arbitration (f : Frame) {position : Nat} (first : position < 9) :
    frameBit f position = some (arbitrationBit f position) := by
  have byte : f.encode[position / 10]? = some (arbitrationByte f.cls f.source) := by
    rw [Nat.div_eq_of_lt (by omega)]
    rfl
  have bit : (arbitrationByte f.cls f.source).getLsbD (8 - position) =
      (32 * f.cls + f.source.toNat).testBit (8 - position) := by
    rw [← BitVec.testBit_toNat, arbitrationByte_toNat]
  rw [frameBit, byte, Option.map_some, Nat.mod_eq_of_lt (by omega), bit, arbitrationBit]
  have noStop : position ≠ 9 := by omega
  simp [noStop]

/-- The bit of a frame at a place of one of its characters (R59). -/
theorem frameBit_character {f : Frame} {k : Nat} {b : Byte} (byte : f.encode[k]? = some b) {i : Nat} (place : i < 10) :
    frameBit f (10 * k + i) = some (i ≠ 0 && (i = 9 || b.getLsbD (8 - i))) := by
  rw [frameBit, show (10 * k + i) / 10 = k by omega, show (10 * k + i) % 10 = i by omega, byte]
  rfl

theorem frameBit_beyond {f : Frame} {position : Nat} (after : 10 * f.encode.length ≤ position) :
    frameBit f position = none := by
  rw [frameBit, List.getElem?_eq_none (by omega)]
  rfl

section LiveFrame

variable {t : Transmitter} {lf : LayerFrame}

/-- In ARBITRATING the start bit and the arbitration byte are sent, and nothing else (R74). -/
theorem Transmitter.sentBit_arbitrating (arbitrating : t.state = .arbitrating) (live : t.live = some lf)
    (position : Nat) :
    t.sentBit position = if position < 9 then some (arbitrationBit lf.frame position) else none := by
  have sent : t.sentBit position = if position < 9 then t.liveBits[position]? else none := by
    rw [Transmitter.sentBit, arbitrating]
    rfl
  rw [sent, Transmitter.liveBits_getElem? live]
  split
  · exact frameBit_arbitration _ ‹_›
  · rfl

/-- In SENDING every later bit is sent (R75). -/
theorem Transmitter.sentBit_sending (sending : t.state = .sending) (live : t.live = some lf) (position : Nat) :
    t.sentBit position = if 9 ≤ position then frameBit lf.frame position else none := by
  rw [← Transmitter.liveBits_getElem? live, Transmitter.sentBit, sending]
  rfl

theorem Transmitter.sentBit_silent (noArbitration : t.state ≠ .arbitrating) (noSending : t.state ≠ .sending)
    (position : Nat) : t.sentBit position = none := by
  rcases t.sentBit_cases position with ⟨state, _⟩ | ⟨state, _⟩ | none
  · exact absurd state noArbitration
  · exact absurd state noSending
  · exact none

/-- A bit error is what the claims call one (R74, R76). -/
theorem Transmitter.bitErrorAt_iff_wrongBit (live : t.live = some lf) (position : Nat) (samples : BitSamples) :
    t.bitErrorAt position samples = true ↔ wrongBit t lf position samples := by
  rw [Transmitter.bitErrorAt_iff, wrongBit]
  by_cases arbitrating : t.state = .arbitrating
  · rw [Transmitter.sentBit_arbitrating arbitrating live]
    by_cases first : position < 9 <;> simp [arbitrating, first]
  · by_cases sending : t.state = .sending
    · rw [Transmitter.sentBit_sending sending live]
      by_cases later : 9 ≤ position
      · cases bitValue samples <;> simp [sending, later]
      · simp [sending, later]
    · simp [Transmitter.sentBit_silent arbitrating sending, arbitrating, sending]

/-- Nine bits are read as sent exactly where each is (R74). -/
theorem Transmitter.readsAsSent_iff (live : t.live = some lf) {bits : List BitSamples} (nine : bits.length = 9) :
    t.readsAsSent bits = true ↔ ∀ i : Fin 9, bits[i.val]?.map bitValue = some (arbitrationBit lf.frame i.val) := by
  have sent {i : Nat} (first : i < 9) : (t.liveBits.take arbitrationBits)[i]? = some (arbitrationBit lf.frame i) := by
    rw [List.getElem?_take_of_lt (by exact first), Transmitter.liveBits_getElem? live, frameBit_arbitration _ first]
  rw [Transmitter.readsAsSent, beq_iff_eq]
  constructor
  · intro same i
    rw [← List.getElem?_map, same, sent i.isLt]
  · intro each
    refine List.ext_getElem? fun i => ?_
    by_cases first : i < 9
    · rw [List.getElem?_map, each ⟨i, first⟩, sent first]
    · rw [List.getElem?_map, List.getElem?_eq_none (by omega), List.getElem?_take_eq_none (by exact Nat.not_lt.1 first)]
      rfl

end LiveFrame

/-! ### What the field line carries (R56, R59, R72, R78) -/

theorem Transmitter.drives_recessive_of_none {t : Transmitter} {position : Nat} (none : t.sentBit position = none) :
    t.drives position = .recessive := by
  rw [Transmitter.drives, none]
  rfl

/-- Settles O28: by which bit is sent in which state. -/
theorem fieldLineIsDriven : Obligations.FieldLineIsDriven := by
  refine ⟨fun s position noArbitration noSending => ?_, fun s lf position arbitrating live => ?_,
    fun s lf k b sending live byte => ?_, fun s lf position sending live outside => ?_,
    fun s position sound driven => ?_⟩
  · exact Transmitter.drives_recessive_of_none (Transmitter.sentBit_silent noArbitration noSending position)
  · rw [Transmitter.drives_dominant_iff, Transmitter.sentBit_arbitrating arbitrating live]
    by_cases first : position < 9 <;> simp [first]
  · have sent {i : Nat} (place : i < 10) (later : 9 ≤ 10 * k + i) :
        s.tx.sentBit (10 * k + i) = some (i ≠ 0 && (i = 9 || b.getLsbD (8 - i))) := by
      rw [Transmitter.sentBit_sending sending live, if_pos later, frameBit_character byte place]
    refine ⟨fun second => ?_, fun second j => ?_, ?_⟩
    · exact (s.tx.drives_dominant_iff _).2 (sent (i := 0) (by omega) (by omega))
    · rw [s.tx.drives_dominant_iff, Nat.add_assoc, sent (by omega) (by omega),
        show 8 - (1 + j.val) = 7 - j.val by omega]
      have noStop : 1 + j.val ≠ 9 := by omega
      simp [noStop]
    · rw [Transmitter.drives, sent (by omega) (by omega)]
      rfl
  · refine Transmitter.drives_recessive_of_none ?_
    rw [Transmitter.sentBit_sending sending live]
    rcases outside with first | after
    · exact if_neg (Nat.not_le.2 first)
    · rw [frameBit_beyond after, ite_self]
  · have state : s.tx.state = .arbitrating ∨ s.tx.state = .sending := by
      by_contra other
      obtain ⟨noArbitration, noSending⟩ := not_or.1 other
      have sent := (s.tx.drives_dominant_iff position).1 driven
      rw [Transmitter.sentBit_silent noArbitration noSending] at sent
      cases sent
    by_cases running : s.mode = .running
    · exact .inl running
    · rcases (sound.silent running).2 with quiet | ⟨halted, sending | mute⟩
      · rw [quiet] at state
        simp at state
      · exact .inr ⟨halted, sending⟩
      · rw [mute] at state
        simp at state

/-! ### Moving, starting, arbitration and bit errors (R69, R73, R74, R76) -/

/-- A rebuilt frame is what the claims call refreshed (R70). -/
theorem State.rebuild_eq_refreshed (s : State) (lf : LayerFrame) : s.rebuild lf = refreshed s lf := by
  obtain ⟨⟨kind, cls, place⟩, frame⟩ := lf
  cases kind with
  | request n id tag => rfl
  | report p => rfl
  | answer requester n p tag => rfl
  | status n =>
    unfold State.rebuild refreshed
    cases s.buildFrame ⟨.status n, cls, place⟩ <;> rfl

/-- The live frame back in WAITING, with this failure count (R74, R76). -/
theorem State.returnToWaiting_failures (s : State) (failures : Nat) {lf : LayerFrame} (live : s.tx.live = some lf) :
    (s.withTx { s.tx with failures := failures }).returnToWaiting =
      s.withTx { s.tx with failures := failures, state := .waiting, live := some (refreshed s lf) } := by
  have same : refreshed (s.withTx { s.tx with failures := failures }) lf = refreshed s lf := by
    unfold refreshed
    rw [s.buildFrame_withTx (x := { s.tx with failures := failures }) rfl]
  unfold State.returnToWaiting
  rw [State.withTx_tx, live, Option.map_some, State.rebuild_eq_refreshed, same]
  rfl

/-- Settles O23: a move as it stands, and an idle completion for receiver and transmitter. -/
theorem moveAndIdleComplete : Obligations.MoveAndIdleComplete := by
  refine ⟨fun s lf running live next quiet => ?_, fun s listens outside => ?_⟩
  · have moves : exec .liveLayerMove s = .next (s.withTx s.tx.move) :=
      congrArg Host.Outcome.next (if_pos ⟨running, live, by rw [next]; rfl, quiet⟩)
    rw [moves, Transmitter.move, next]
  · have idles : exec .idleCompletion s =
        .next ((s.withRx s.rx.idle).withTx (if s.mode = .running then s.tx.start else s.tx)) :=
      congrArg Host.Outcome.next (if_pos ⟨listens, outside⟩)
    have starts : (if s.mode = .running then s.tx.start else s.tx) = { s.tx with state :=
        if s.mode = .running ∧ s.tx.state = .waiting then .arbitrating else s.tx.state } := by
      by_cases running : s.mode = .running
      · by_cases waiting : s.tx.state = .waiting <;> simp [running, waiting, Transmitter.start]
      · simp [running]
    rw [idles, starts]
    rfl

/-- Settles O24: the nine bits of arbitration, one by one. -/
theorem arbitrationCompletes : Obligations.ArbitrationCompletes := by
  intro s lf running arbitrating live
  refine ⟨fun bits nine => ⟨fun each => ?_, fun ⟨i, other⟩ => ?_⟩, fun bit samples => ?_⟩
  · exact congrArg Host.Outcome.next (if_pos ⟨running, arbitrating, (Transmitter.readsAsSent_iff live nine).2 each⟩)
  · refine congrArg Host.Outcome.next (if_neg fun ⟨_, _, reads⟩ => ?_)
    rw [(Transmitter.readsAsSent_iff live nine).1 reads i] at other
    simp at other
  · intro sent
    have bits : s.tx.sentBit (dataPosition bit) = some sent := by
      have place : dataPosition bit < 9 := by unfold dataPosition; omega
      rw [Transmitter.sentBit_arbitrating arbitrating live, if_pos place, arbitrationBit, dataPosition,
        show 8 - (8 - bit.val) = bit.val by omega]
      have noStart : 8 - bit.val ≠ 0 := by omega
      simp [sent, noStart]
    refine ⟨fun one zero => ?_, fun none => ?_⟩
    · have lost : exec (.lostArbitration bit samples) s = .next s.returnToWaiting :=
        congrArg Host.Outcome.next (if_pos ⟨running, arbitrating, by rw [bits, one], zero⟩)
      rw [lost]
      exact congrArg Host.Outcome.next (s.returnToWaiting_failures s.tx.failures live)
    · refine congrArg Host.Outcome.next (if_neg fun ⟨_, _, one, zero⟩ => ?_)
      obtain zero' | one' := none
      · rw [bits, zero'] at one
        cases one
      · exact nomatch one'.symm.trans zero

theorem Transmitter.lastFailure_iff (t : Transmitter) : t.lastFailure = true ↔ 16 ≤ t.failures + 1 :=
  decide_eq_true_iff

/-- A BIT_ERROR in RUNNING aborts the frame (R76). -/
theorem exec_bitError_running {s : State} {lf : LayerFrame} {position : Nat} {samples : BitSamples}
    (live : s.tx.live = some lf) (running : s.mode = .running) (wrong : wrongBit s.tx lf position samples) :
    exec (.bitError position samples) s = .next s.abortFrame := by
  have error := (Transmitter.bitErrorAt_iff_wrongBit live position samples).2 wrong
  exact congrArg Host.Outcome.next ((if_pos error).trans (if_pos running))

/-- Settles O25: the error of the live frame, by the mode. -/
theorem bitErrorCompletes : Obligations.BitErrorCompletes := by
  intro s lf position samples live
  have error := Transmitter.bitErrorAt_iff_wrongBit live position samples
  refine ⟨fun running few wrong => ?_, fun halted sending wrong => ?_, fun right => ?_⟩
  · have again : ¬ s.tx.lastFailure = true := fun last => Nat.not_le.2 few (s.tx.lastFailure_iff.1 last)
    rw [exec_bitError_running live running wrong, State.abortFrame, if_neg again]
    exact congrArg Host.Outcome.next (s.returnToWaiting_failures _ live)
  · have other : s.mode ≠ .running := by rw [halted]; decide
    exact congrArg Host.Outcome.next
      ((if_pos (error.2 wrong)).trans ((if_neg other).trans (if_pos ⟨halted, sending⟩)))
  · exact congrArg Host.Outcome.next (if_neg fun wrong => right (error.1 wrong))

/-! ### The pending list at the entry to HALTED in RUNNING (R169, R182) -/

/-- Every entry stays, at its place, with its class or a lower one; an empty next layer stays empty. -/
structure Transmitter.EntriesStay (a b : Transmitter) : Prop where
  entries : ∀ e ∈ a.entries, ∃ g ∈ b.entries, g.kind = e.kind ∧ g.place = e.place ∧ g.cls ≤ e.cls
  next : a.next = none → b.next = none

namespace Transmitter.EntriesStay

theorem refl (a : Transmitter) : a.EntriesStay a := ⟨fun e mem => ⟨e, mem, rfl, rfl, le_rfl⟩, id⟩

theorem trans {a b c : Transmitter} (first : a.EntriesStay b) (second : b.EntriesStay c) : a.EntriesStay c where
  entries := fun e mem => by
    obtain ⟨g, mem, kind, place, cls⟩ := first.entries e mem
    obtain ⟨h, mem, kind', place', cls'⟩ := second.entries g mem
    exact ⟨h, mem, kind'.trans kind, place'.trans place, cls'.trans cls⟩
  next := second.next ∘ first.next

theorem append (t : Transmitter) (kind : EntryKind) (cls : Nat) : t.EntriesStay (t.append kind cls) :=
  ⟨fun e mem => ⟨e, List.mem_append_left _ mem, rfl, rfl, le_rfl⟩, id⟩

theorem raise (t : Transmitter) (which : EntryKind → Bool) (cls : Nat) : t.EntriesStay (t.raise which cls) := by
  refine ⟨fun e mem => ⟨_, List.mem_map_of_mem mem, ?_⟩, id⟩
  split
  · exact ⟨rfl, rfl, min_le_left _ _⟩
  · exact ⟨rfl, rfl, le_rfl⟩

/-- A change that falls due raises an entry or appends one (R66). -/
theorem hold (t : Transmitter) (which : EntryKind → Bool) (kind : EntryKind) (changeClass periodicClass : Nat)
    (cause : DueCause) : t.EntriesStay (t.hold which kind changeClass periodicClass cause) := by
  unfold Transmitter.hold
  split
  · cases cause
    · exact raise t _ _
    · exact refl t
  · split
    · exact refl t
    · cases cause <;> exact append t _ _

theorem refresh (s : State) (concerns : EntryKind → Bool) (newClass : EntryKind → Nat → Nat) :
    s.tx.EntriesStay (s.refresh concerns newClass).tx :=
  ⟨(refl s.tx).entries, fun empty => congrArg (Option.map _) empty⟩

theorem sectionChangeDue (s : State) (n : Slot) : s.tx.EntriesStay (s.sectionChangeDue n).tx := by
  unfold State.sectionChangeDue
  split
  · exact trans (b := s.tx.statusDue n .change) (hold s.tx _ _ _ _ _)
      (refresh (s.withTx (s.tx.statusDue n .change)) _ _)
  · exact refl _

theorem haltSection (s : State) (n : Slot) : s.tx.EntriesStay (s.haltSection n).tx := by
  unfold State.haltSection
  split
  · exact refl _
  · dsimp only
    split
    · exact sectionChangeDue (s.setSection n _) n
    · exact refl _

end Transmitter.EntriesStay

/-- The transmitter at the entry to HALTED: stopped, once the statuses of the sections that take HALT are due. -/
theorem State.enterHalted_tx_stays {s : State} (halted : s.mode ≠ .halted) (cause : HaltCause) :
    ∃ x, (s.enterHalted cause).tx = x.halt ∧ TxKept s.tx x ∧ s.tx.EntriesStay x := by
  have e : s.enterHalted cause = (allSlots.foldl State.haltSection s).stopBlocks cause := if_neg halted
  refine ⟨(allSlots.foldl State.haltSection s).tx, by rw [e]; rfl, ?_⟩
  exact List.foldlRecOn (motive := fun t : State => TxKept s.tx t.tx ∧ s.tx.EntriesStay t.tx) allSlots
    State.haltSection ⟨.refl _, .refl _⟩ fun t kept n _ =>
      ⟨kept.1.trans (.haltSection t n), kept.2.trans (.haltSection t n)⟩

/-! ### The sixteenth failure (R77, R182) -/

/-- The transmitter when it is muted, before the entry to HALTED (R77). -/
def Transmitter.muted (t : Transmitter) : Transmitter :=
  { t with state := .mute, failures := t.failures + 1, live := none, next := none }

theorem State.enterMute_eq (s : State) : s.enterMute = ((s.withTx s.tx.muted).enterHalted .mute).driveAttn := rfl

/-- What MUTE leaves of the transmitter: both layers empty and nothing kept in them (R77, R136). -/
theorem State.enterMute_tx {s : State} (halted : s.mode ≠ .halted) :
    ∃ x, s.enterMute.tx = x.halt ∧ s.tx.EntriesStay x ∧ x.startCounters = s.tx.startCounters ∧
      x.halt.state = .mute ∧ x.halt.failures = s.tx.failures + 1 ∧ x.halt.live = none ∧ x.halt.keptLive = none ∧
      x.halt.keptNext = none := by
  obtain ⟨x, tx, kept, stays⟩ := State.enterHalted_tx_stays (s := s.withTx s.tx.muted) (by exact halted) .mute
  have state : x.state = .mute := kept.state
  have noSending : x.state ≠ .sending := by rw [state]; decide
  have live : x.live = none := Option.isSome_eq_false_iff.1 kept.held |> Option.isNone_iff_eq_none.1
  obtain ⟨liveNone, keptLive⟩ := x.halt_live.2 noSending
  refine ⟨x, tx, ⟨stays.entries, fun _ => stays.next rfl⟩, kept.startCounters, x.halt_states.2.1 state, kept.failures,
    liveNone, ?_, ?_⟩
  · rw [keptLive, live]
    rfl
  · exact congrArg heldAnswer (stays.next rfl)

/-- The entry to HALTED with cause MUTE does all that R182 lists. -/
theorem haltedFrom_enterMute {s : State} (halted : s.mode ≠ .halted) : haltedFrom s s.enterMute := by
  obtain ⟨x, tx, stays, counters, _, _, _, keptLive, keptNext⟩ := State.enterMute_tx halted
  have sections := State.enterHalted_get (s := s.withTx s.tx.muted) (by exact halted) .mute
  have writes := State.enterHalted_eq (s := s.withTx s.tx.muted) (by exact halted) .mute
  rw [State.enterMute_eq, State.driveAttn_tx] at tx
  rw [tx] at writes
  rw [State.enterMute_eq]
  generalize (s.withTx s.tx.muted).enterHalted .mute = t at sections writes
  obtain ⟨secs, rfl⟩ : ∃ secs, t = { s with
      mode := .halted, cause := some .mute, cfgSelectLow := false, cfgClock := 0, loadingTimer := .stopped
      listeningTimer := .stopped, tx := x.halt, rx := s.rx.halt
      mirror := s.mirror.map fun e => e.map MirrorEntry.halt, sections := secs, lines := .const 8 .low } :=
    ⟨_, writes⟩
  refine ⟨rfl, rfl, rfl, rfl, rfl, rfl, rfl, rfl, rfl, rfl, rfl, rfl, rfl, fun m => Table.get_map _ _ _,
    fun n => (sections n).trans rfl, fun p => ?_, fun n => ?_, rfl, counters, stays.entries,
    fun other => absurd rfl other, fun _ => ⟨keptLive, keptNext⟩, fun n => Table.get_const _ _, rfl, rfl⟩
  · exact congrArg Timer.running (Table.get_map _ _ _)
  · exact congrArg Timer.running (Table.get_map _ _ _)

/-- Settles O26: both names of the last failure enter MUTE, and MUTE halts the part as R182 lists. -/
theorem muteCompletes : Obligations.MuteCompletes := by
  intro s lf position samples running live fifteen wrong
  have halted : s.mode ≠ .halted := by rw [running]; decide
  have error := (Transmitter.bitErrorAt_iff_wrongBit live position samples).2 wrong
  have last : s.tx.lastFailure = true := s.tx.lastFailure_iff.2 (by omega)
  have named : exec (.mute position samples) s = .next s.enterMute :=
    congrArg Host.Outcome.next (if_pos ⟨running, error, last⟩)
  have found : exec (.bitError position samples) s = .next s.enterMute := by
    rw [exec_bitError_running live running wrong, State.abortFrame, if_pos last]
  obtain ⟨x, tx, _, _, state, failures, empty, _⟩ := State.enterMute_tx halted
  refine ⟨s.enterMute, named, found, haltedFrom_enterMute halted, (State.enterMute_mode halted).2, ?_⟩
  rw [tx]
  exact ⟨state, by rw [failures, fifteen], empty⟩

end Sys2Proof.Machine

namespace Sys2Proof.Machine

open Sys2Proof.Claims

/-! ### Start bits and characters (R57 to R60, R81 to R83) -/

theorem validDominant_iff {before here after : LineLevel} :
    validDominant before here after = true ↔ here = .dominant ∧ (before = .dominant ∨ after = .dominant) := by
  simp [validDominant]

/-- A bit reads 0 where two of its samples 7 to 9 are dominant, each beside a second dominant sample (R57, R58). -/
theorem bitValue_eq_false_iff (b : BitSamples) :
    bitValue b = false ↔
      (b.s7 = .dominant ∧ b.s8 = .dominant) ∨ (b.s8 = .dominant ∧ b.s9 = .dominant) ∨
        (b.s6 = .dominant ∧ b.s7 = .dominant ∧ b.s9 = .dominant ∧ b.s10 = .dominant) := by
  have majority : bitValue b = false ↔
      (validDominant b.s6 b.s7 b.s8 = true ∧ validDominant b.s7 b.s8 b.s9 = true) ∨
        (validDominant b.s6 b.s7 b.s8 = true ∧ validDominant b.s8 b.s9 b.s10 = true) ∨
        (validDominant b.s7 b.s8 b.s9 = true ∧ validDominant b.s8 b.s9 b.s10 = true) := by
    rw [bitValue]
    simp only [Bool.not_eq_false', Bool.or_eq_true, Bool.and_eq_true, or_assoc]
  rw [majority, validDominant_iff, validDominant_iff, validDominant_iff]
  by_cases d7 : b.s7 = .dominant <;> by_cases d8 : b.s8 = .dominant <;> by_cases d9 : b.s9 = .dominant <;>
    simp [d7, d8, d9]

theorem exec_startBit {s : State} (listens : s.mode.listens = true) (outside : s.rx.inCharacter = false) {k : Nat}
    (long : 2 ≤ k) (b : BitSamples) :
    exec (.startBit k b) s = .next (s.withRx (s.rx.takeStart (bitValue b))) :=
  congrArg Host.Outcome.next (if_pos ⟨listens, outside, long⟩)

/-- A start bit that reads 0 begins a character, and on an idle line a frame (R81, R82). -/
theorem Receiver.takeStart_zero (r : Receiver) :
    r.takeStart false = { r with
      inCharacter := true, idleCount := 0, sent := none, assembling := r.assembling || r.idleCount = 12
      buffer := if r.assembling = false ∧ r.idleCount = 12 then [] else r.buffer } := by
  rcases r.takeStart_cases false with ⟨one, _⟩ | ⟨one, _⟩ | ⟨_, ha, e⟩ | ⟨_, ha, hi, e⟩ | ⟨_, ha, hi, e⟩
  · cases one
  · cases one
  · simp [e, ha]
  · simp [e, ha, hi]
  · simp [e, ha, hi]

/-- A start bit that reads 1 discards a frame being assembled (R82). -/
theorem Receiver.takeStart_one (r : Receiver) :
    r.takeStart true = { r with
      idleCount := 0, sent := none, assembling := false, buffer := if r.assembling then [] else r.buffer } := by
  rcases r.takeStart_cases true with ⟨_, ha, e⟩ | ⟨_, ha, e⟩ | ⟨zero, _⟩ | ⟨zero, _⟩ | ⟨zero, _⟩
  · simp [e, ha, Receiver.discard]
  · simp [e, ha]
  all_goals cases zero

/-- Settles O33: the value of the start bit, and what each value does. -/
theorem startBitCompletes : Obligations.StartBitCompletes := by
  intro s k b listens outside
  refine ⟨fun short => congrArg Host.Outcome.next (if_neg fun ⟨_, _, long⟩ => Nat.not_le.2 short long), fun long => ?_⟩
  rw [exec_startBit listens outside long, ← bitValue_eq_false_iff]
  refine ⟨fun zero => ?_, fun one => ?_⟩
  · rw [zero, Receiver.takeStart_zero]
  · rw [Bool.not_eq_false] at one
    rw [one, Receiver.takeStart_one]

theorem bitsOf_eq_byteBits (b : Byte) : bitsOf b = byteBits b := rfl

theorem byteOfData_of_reads {data : List BitSamples} {b : Byte} (read : reads data b) : byteOfData data = b := by
  rw [byteOfData, read, bitsOf_eq_byteBits, byteOfBits_byteBits]

theorem exec_characterComplete {s : State} {data : List BitSamples} {b : Byte} (listens : s.mode.listens = true)
    (inside : s.rx.inCharacter = true) (read : reads data b) :
    exec (.characterComplete data) s = .next (s.takeCharacter b) := by
  rw [← byteOfData_of_reads read]
  exact congrArg Host.Outcome.next (if_pos ⟨listens, inside⟩)

/-- A byte that is no bad length byte and completes no frame is taken, and no more (R82). -/
theorem State.takeCharacter_taken {s : State} {b : Byte} (short : s.rx.completes b = false)
    (good : s.rx.atLength = true → goodLength b = true) : s.takeCharacter b = s.withRx (s.rx.takeByte b) := by
  rcases s.takeCharacter_cases b with ⟨length, bad, _⟩ | ⟨whole, _⟩ | ⟨_, _, e⟩
  · exact nomatch (good length).symm.trans bad
  · exact nomatch short.symm.trans whole
  · exact e

section OneCharacter

variable {s : State} {b : Byte}

/-- A character is passed over while HUNTING (R81). -/
theorem State.takeCharacter_hunting (hunting : s.rx.assembling = false) :
    s.takeCharacter b = s.withRx { s.rx with inCharacter := false, idleCount := 0 } := by
  rw [State.takeCharacter_taken (by simp [Receiver.completes, hunting]) (by simp [Receiver.atLength, hunting])]
  simp [Receiver.takeByte, hunting]

/-- The first byte of a frame is its arbitration byte (R82). -/
theorem State.takeCharacter_first (assembling : s.rx.assembling = true) (empty : s.rx.buffer = []) :
    s.takeCharacter b = s.withRx { s.rx with inCharacter := false, idleCount := 0, buffer := [b] } := by
  rw [State.takeCharacter_taken (by simp [Receiver.completes, empty]) (by simp [Receiver.atLength, empty])]
  simp [Receiver.takeByte, assembling, empty]

/-- The second is a good length byte (R83). -/
theorem State.takeCharacter_length {a : Byte} (assembling : s.rx.assembling = true) (buffer : s.rx.buffer = [a])
    (good : goodLength b = true) :
    s.takeCharacter b = s.withRx { s.rx with inCharacter := false, idleCount := 0, buffer := [a, b] } := by
  rw [State.takeCharacter_taken (by simp [Receiver.completes, buffer]) fun _ => good]
  simp [Receiver.takeByte, assembling, buffer]

/-- A body byte short of the full length is appended (R82). -/
theorem State.takeCharacter_body {a l : Byte} {rest : List Byte} (assembling : s.rx.assembling = true)
    (buffer : s.rx.buffer = a :: l :: rest) (short : rest.length + 3 ≠ l.toNat + 4) :
    s.takeCharacter b =
      s.withRx { s.rx with inCharacter := false, idleCount := 0, buffer := s.rx.buffer ++ [b] } := by
  have more : s.rx.completes b = false := by
    refine Bool.eq_false_iff.2 fun whole => short ?_
    obtain ⟨_, _, _, last⟩ := Receiver.completes_iff.1 whole
    rw [buffer] at last
    exact (Option.some.inj last).symm
  rw [State.takeCharacter_taken more (by simp [Receiver.atLength, buffer])]
  simp [Receiver.takeByte, assembling]

end OneCharacter

/-- A framing error discards the frame being assembled (R82). -/
theorem Receiver.framingError_eq (r : Receiver) : r.framingError =
    { r with inCharacter := false, idleCount := 0, buffer := [], assembling := false, sent := none } := rfl

/-- Settles O34: a character by the place it has in its frame, and both framing errors. -/
theorem charactersComplete : Obligations.CharactersComplete := by
  intro s data b listens inside read
  rw [exec_characterComplete listens inside read]
  refine ⟨fun hunting => ?_, fun assembling empty => ?_, fun a assembling buffer low high => ?_,
    fun a assembling buffer bad => ?_, fun a l rest assembling buffer short => ?_, fun assembling stop zero => ?_,
    fun assembling start one => ?_⟩
  · rw [State.takeCharacter_hunting hunting]
  · rw [State.takeCharacter_first assembling empty]
  · rw [State.takeCharacter_length assembling buffer (goodLength_iff.2 ⟨low, high⟩)]
  · have length : s.rx.atLength = true := Receiver.atLength_iff.2 ⟨assembling, inside, by rw [buffer]; rfl⟩
    have bad' : goodLength b = false := Bool.eq_false_iff.2 fun good => by
      obtain ⟨low, high⟩ := goodLength_iff.1 good
      omega
    have named : exec (.badLength data) s = .next (s.takeCharacter b) := by
      rw [← byteOfData_of_reads read] at bad' ⊢
      exact congrArg Host.Outcome.next (if_pos ⟨listens, length, bad'⟩)
    exact ⟨by rw [State.takeCharacter_badLength length bad']; rfl, named⟩
  · rw [State.takeCharacter_body assembling buffer short]
  · exact congrArg Host.Outcome.next (if_pos ⟨listens, assembling, inside, zero⟩)
  · exact congrArg Host.Outcome.next (if_pos ⟨listens, assembling, rfl, one⟩)

/-! ### The check (R62) -/

/-- The check is carried on byte by byte, most significant bit first. -/
theorem crc_append_byte (bytes : List Byte) (b : Byte) : crc (bytes ++ [b]) = (bitsOf b).foldl crcBit (crc bytes) := by
  rw [crc, List.foldl_append]
  rfl

/-- The least significant bit after a bit has entered says whether the two leading bits differed. -/
theorem crcBit_getMsbD (register : BitVec 16) (bit : Bool) :
    (register.msb = bit → ∀ i, (crcBit register bit).getMsbD i = register.getMsbD (i + 1)) ∧
      (register.msb ≠ bit → (crcBit register bit).getMsbD 15 = true) := by
  unfold crcBit
  refine ⟨fun same i => ?_, fun differ => ?_⟩
  · rw [if_neg (by simp [same]), BitVec.getMsbD_shiftLeft]
  · have odd : (0x1021#16).getMsbD 15 = true := by decide
    have even : register.getMsbD 16 = false := BitVec.getMsbD_of_ge _ _ le_rfl
    rw [if_pos (by simpa using differ), BitVec.getMsbD_xor, BitVec.getMsbD_shiftLeft, odd, even]
    rfl

/-- At most sixteen bits bring the check to 0 exactly where they are its leading bits, and the rest are 0. -/
theorem foldl_crcBit_eq_zero_iff {bits : List Bool} (short : bits.length ≤ 16) (register : BitVec 16) :
    bits.foldl crcBit register = 0#16 ↔ ∀ i, register.getMsbD i = bits.getD i false := by
  induction bits generalizing register with
  | nil =>
    constructor
    · rintro rfl i
      simp
    · intro zero
      exact BitVec.eq_of_getMsbD_eq fun i _ => by simpa using zero i
  | cons bit rest ih =>
    have short' : rest.length ≤ 15 := Nat.le_of_succ_le_succ short
    obtain ⟨shifted, odd⟩ := crcBit_getMsbD register bit
    rw [List.foldl_cons, ih (by omega)]
    by_cases same : register.msb = bit
    · constructor
      · intro each i
        cases i with
        | zero => exact same
        | succ i => rw [← shifted same, each i, List.getD_cons_succ]
      · intro each i
        rw [shifted same, each (i + 1), List.getD_cons_succ]
    · constructor
      · intro each
        have last := each 15
        rw [odd same, List.getD_eq_default _ _ short'] at last
        cases last
      · exact fun each => absurd (each 0) same

/-- The bits of two bytes are those of their word. -/
theorem append_getMsbD (high low : Byte) (i : Nat) :
    (high ++ low).getMsbD i = (bitsOf high ++ bitsOf low).getD i false := by
  by_cases inside : i < 16
  · rw [BitVec.getMsbD_append]
    interval_cases i <;> rfl
  · rw [BitVec.getMsbD_of_ge _ _ (by omega), List.getD_eq_default]
    exact Nat.not_lt.1 inside

theorem append_toNat (high low : Byte) : (high ++ low).toNat = word high low := toNat_append_add high low

/-- Carried on over two bytes the check is 0 exactly where they are the check of what precedes. -/
theorem crc_append_word (bytes : List Byte) (high low : Byte) :
    crc (bytes ++ [high, low]) = 0#16 ↔ word high low = (crc bytes).toNat := by
  have bits : crc (bytes ++ [high, low]) = (bitsOf high ++ bitsOf low).foldl crcBit (crc bytes) := by
    rw [show bytes ++ [high, low] = bytes ++ [high] ++ [low] by simp, crc_append_byte, crc_append_byte,
      List.foldl_append]
  rw [bits, foldl_crcBit_eq_zero_iff (by simp [bitsOf]), ← append_toNat]
  constructor
  · intro each
    exact congrArg BitVec.toNat (BitVec.eq_of_getMsbD_eq fun i _ => by rw [append_getMsbD, each i])
  · intro same i
    rw [← append_getMsbD, BitVec.eq_of_toNat_eq same]

/-- A frame carries the check of what precedes it, so that its own is 0. -/
theorem Frame.crc_encode (f : Frame) : crc f.encode = 0#16 :=
  (crc_append_word _ _ _).2 (word_highByte_lowByte _)

/-- The test value of the check (R62). -/
theorem crc_digits : crc [0x31, 0x32, 0x33, 0x34, 0x35, 0x36, 0x37, 0x38, 0x39] = 0x29B1#16 := by
  decide +kernel

/-- Settles O29: the check bit by bit, and the two bytes that bring it to 0. -/
theorem checkDetectsItsWord : Obligations.CheckDetectsItsWord := by
  refine ⟨rfl, crc_append_byte, crc_digits, crc_append_word,
    fun f => ⟨_, _, rfl, word_highByte_lowByte _⟩, fun station image good => ?_⟩
  have checks : (imageChecks station image).all id = true := good
  exact beq_iff_eq.1 (List.all_eq_true.1 checks (crc image == 0#16) (by simp [imageChecks]))

end Sys2Proof.Machine

namespace Sys2Proof.Machine

open Sys2Proof.Claims

/-! ### The fields of a received byte, as numbers (04, section 4.3) -/

theorem classOfByte_eq (b : Byte) : classOfByte b = b.toNat / 32 := by
  have bound := b.isLt
  rw [classOfByte, BitVec.extractLsb'_toNat, Nat.shiftRight_eq_div_pow]
  omega

theorem stationOfByte_toNat (b : Byte) : (stationOfByte b).toNat = b.toNat % 32 := by
  rw [stationOfByte, BitVec.extractLsb'_toNat, Nat.shiftRight_zero]

theorem stationOfByte_eq_zero_iff (b : Byte) : stationOfByte b = 0 ↔ b.toNat % 32 = 0 := by
  rw [← stationOfByte_toNat, ← BitVec.toNat_inj]
  rfl

theorem stationOfByte_eq {b : Byte} {station : Station} (number : b.toNat % 32 = station.toNat) :
    stationOfByte b = station := BitVec.eq_of_toNat_eq (by rw [stationOfByte_toNat, number])

theorem slotHigh_eq {b : Byte} {slot : Slot} (number : b.toNat / 32 = slot.val) : slotHigh b = slot := by
  refine Fin.ext ?_
  change (b.extractLsb' 5 3).toNat = slot.val
  rw [BitVec.extractLsb'_toNat, Nat.shiftRight_eq_div_pow]
  omega

theorem slotLow_eq {b : Byte} {slot : Slot} (number : b.toNat % 8 = slot.val) : (b.extractLsb' 0 3).toFin = slot := by
  refine Fin.ext ?_
  change (b.extractLsb' 0 3).toNat = slot.val
  rw [BitVec.extractLsb'_toNat, Nat.shiftRight_zero]
  exact number

theorem pointCount_eq (b : Byte) : (b.extractLsb' 0 3).toNat = b.toNat % 8 := by
  rw [BitVec.extractLsb'_toNat, Nat.shiftRight_zero]

theorem getLsbD_eq_decide (b : Byte) (i : Nat) : b.getLsbD i = decide (b.toNat / 2 ^ i % 2 = 1) := by
  rw [← BitVec.testBit_toNat, Nat.testBit_eq_decide_div_mod_eq]

theorem wordOf_toNat (high low : Byte) : (wordOf high low).toNat = word high low := append_toNat high low

theorem wordOf_eq {high low : Byte} {w : BitVec 16} (number : word high low = w.toNat) : wordOf high low = w :=
  BitVec.eq_of_toNat_eq (by rw [wordOf_toNat, number])

theorem speedValid_iff (high low : Byte) :
    speedValid (wordOf high low) = true ↔ word high low ≤ 999 ∨ word high low = 65535 := by
  rw [speedValid, Bool.or_eq_true, decide_eq_true_iff, beq_iff_eq, ← wordOf_toNat, ← BitVec.toNat_inj]
  rfl

theorem pointNamed_numbers (b : Byte) :
    (pointNamed b).1.toNat = b.toNat / 4 % 32 ∧ (pointNamed b).2.val = b.toNat % 4 := by
  constructor
  · change (b.extractLsb' 2 5).toNat = _
    rw [BitVec.extractLsb'_toNat, Nat.shiftRight_eq_div_pow]
  · change (b.extractLsb' 0 2).toNat = _
    rw [BitVec.extractLsb'_toNat, Nat.shiftRight_zero]

/-- Points named by their numbers are the points read (R134). -/
theorem map_pointNamed_eq {asked : List Byte} {points : List (Station × PointIndex)}
    (numbers : asked.map (fun b => (b.toNat / 4 % 32, b.toNat % 4)) = points.map fun p => (p.1.toNat, p.2.val)) :
    asked.map pointNamed = points := by
  have injective : Function.Injective fun p : Station × PointIndex => (p.1.toNat, p.2.val) := by
    rintro ⟨m, p⟩ ⟨n, q⟩ same
    obtain ⟨station, point⟩ := Prod.mk.inj same
    exact Prod.ext (BitVec.eq_of_toNat_eq station) (Fin.ext point)
  refine List.map_injective_iff.2 injective ?_
  rw [← numbers, List.map_map]
  exact List.map_congr_left fun b _ => Prod.ext (pointNamed_numbers b).1 (pointNamed_numbers b).2

/-! ### The point byte (R48, R51, R64) -/

theorem conditionField_toNat (b : Byte) : (b.extractLsb' 2 2).toNat = b.toNat / 4 % 4 := by
  rw [BitVec.extractLsb'_toNat, Nat.shiftRight_eq_div_pow]

theorem directionField_toNat (b : Byte) : (b.extractLsb' 0 2).toNat = b.toNat % 4 := by
  rw [BitVec.extractLsb'_toNat, Nat.shiftRight_zero]

theorem conditionOfCode_eq {code : BitVec 2} {condition : Condition} (number : code.toNat = conditionNumber condition) :
    conditionOfCode code = some condition := by
  unfold conditionOfCode
  rw [number]
  cases condition <;> rfl

theorem directionOfCode_eq {code : BitVec 2} {last : Option Direction} (number : code.toNat = directionNumber last) :
    directionOfCode code = some last := by
  unfold directionOfCode
  rw [number]
  rcases last with _ | _ | _ <;> rfl

/-- A code of 3 stands for no condition and no direction (R64). -/
theorem parsePoint_invalid {point : Byte} (bad : point.toNat / 4 % 4 = 3 ∨ point.toNat % 4 = 3) (serial : Byte)
    (nAB nBA : Count) : parsePoint point serial nAB nBA = none := by
  unfold parsePoint
  rcases bad with condition | direction
  · have none : conditionOfCode (point.extractLsb' 2 2) = none := by
      unfold conditionOfCode
      rw [conditionField_toNat, condition]
      rfl
    rw [none]
  · have none : directionOfCode (point.extractLsb' 0 2) = none := by
      unfold directionOfCode
      rw [directionField_toNat, direction]
      rfl
    rw [none]
    cases conditionOfCode (point.extractLsb' 2 2) <;> rfl

theorem bitOf_le (b : Bool) : bitOf b ≤ 1 := by cases b <;> decide

theorem conditionNumber_le (condition : Condition) : conditionNumber condition ≤ 2 := by cases condition <;> decide

theorem directionNumber_le (last : Option Direction) : directionNumber last ≤ 2 := by
  rcases last with _ | _ | _ <;> decide

theorem bitOf_eq_one_iff (b : Bool) : bitOf b = 1 ↔ b = true := by cases b <;> simp [bitOf]

/-- A point byte with its serial and counts reads as the content it was written from (R48, R51). -/
theorem parsePoint_eq {point serial b2 b3 b4 b5 : Byte} {c : PointContent}
    (read : pointRead point serial (word b2 b3) (word b4 b5) c) :
    parsePoint point serial (wordOf b2 b3) (wordOf b4 b5) = some c := by
  obtain ⟨number, rfl, nAB, nBA⟩ := read
  have index := c.point.isLt
  have head := bitOf_le (decide (c.head = .wheelOn))
  have start := bitOf_le c.start
  have condition := conditionNumber_le c.condition
  have direction := directionNumber_le c.last
  unfold pointByteNumber at number
  have pointField : (point.extractLsb' 6 2).toFin = c.point := by
    refine Fin.ext ?_
    change (point.extractLsb' 6 2).toNat = _
    rw [BitVec.extractLsb'_toNat, Nat.shiftRight_eq_div_pow]
    omega
  have headField : point.getLsbD 5 = decide (c.head = .wheelOn) := by
    rw [getLsbD_eq_decide, decide_eq_decide, ← decide_eq_true_iff (p := c.head = .wheelOn), ← bitOf_eq_one_iff]
    omega
  have startField : point.getLsbD 4 = c.start := by
    rw [getLsbD_eq_decide, Bool.eq_iff_iff, decide_eq_true_iff, ← bitOf_eq_one_iff]
    omega
  have conditionField : conditionOfCode (point.extractLsb' 2 2) = some c.condition :=
    conditionOfCode_eq (by rw [conditionField_toNat]; omega)
  have directionField : directionOfCode (point.extractLsb' 0 2) = some c.last :=
    directionOfCode_eq (by rw [directionField_toNat]; omega)
  unfold parsePoint
  rw [conditionField, directionField, pointField, headField, startField, wordOf_eq nAB, wordOf_eq nBA]
  obtain ⟨p, h, st, cond, last, serial, m, n⟩ := c
  cases h <;> rfl

/-! ### What is read, and what is not (R64, R89) -/

/-- A body that is read, class by class: its length, and what R64 asks of its bytes. -/
theorem parseBody_eq_some {cls : Nat} {source : Station} {body : List Byte} {f : Received}
    (read : parseBody cls source body = some f) :
    (cls = 0 ∧ ∃ b0 b1 b2, body = [b0, b1, b2] ∧ stationOfByte b0 ≠ 0 ∧
      f = .restoreCommand source (stationOfByte b0) (slotHigh b1) (b1.getLsbD 0) b2) ∨
    (cls = 1 ∧ ∃ b0 b1 b2 b3 b4 b5 b6 b7 b8 c, body = [b0, b1, b2, b3, b4, b5, b6, b7, b8] ∧
      stationOfByte b0 ≠ 0 ∧ parsePoint b3 b4 (wordOf b5 b6) (wordOf b7 b8) = some c ∧
      f = .settleAnswer source (stationOfByte b0) (b1.extractLsb' 0 3).toFin b2 c) ∨
    (cls = 2 ∧ ∃ b0 b1 names, body = b0 :: b1 :: names ∧ 1 ≤ b0.toNat % 8 ∧ b0.toNat % 8 ≤ 4 ∧
      names.length = b0.toNat % 8 ∧ (∀ b ∈ names, (pointNamed b).1 ≠ 0) ∧
      f = .settleRequest source (slotHigh b0) b1 (names.map pointNamed)) ∨
    ((cls = 3 ∨ cls = 5) ∧ ∃ b0 b1 b2 b3 b4 b5 b6 b7 c, body = [b0, b1, b2, b3, b4, b5, b6, b7] ∧
      speedValid (wordOf b6 b7) = true ∧ parsePoint b0 b1 (wordOf b2 b3) (wordOf b4 b5) = some c ∧
      f = .countReport source c) ∨
    ((cls = 4 ∨ cls = 6) ∧ body.length = 8 ∧ f = .sectionStatus source) := by
  have report {b0 b1 b2 b3 b4 b5 b6 b7 : Byte}
      (read : (if speedValid (wordOf b6 b7) then
        (parsePoint b0 b1 (wordOf b2 b3) (wordOf b4 b5)).map (Received.countReport source ·) else none) = some f) :
      speedValid (wordOf b6 b7) = true ∧ ∃ c, parsePoint b0 b1 (wordOf b2 b3) (wordOf b4 b5) = some c ∧
        f = .countReport source c := by
    obtain ⟨valid, read⟩ := Option.ite_none_right_eq_some.1 read
    obtain ⟨c, point, rfl⟩ := Option.map_eq_some_iff.1 read
    exact ⟨valid, c, point, rfl⟩
  unfold parseBody at read
  split at read
  case h_1 b0 b1 b2 =>
    obtain ⟨named, read⟩ := Option.ite_none_left_eq_some.1 read
    exact .inl ⟨rfl, b0, b1, b2, rfl, named, (Option.some.inj read).symm⟩
  case h_2 b0 b1 b2 b3 b4 b5 b6 b7 b8 =>
    obtain ⟨named, read⟩ := Option.ite_none_left_eq_some.1 read
    obtain ⟨c, point, rfl⟩ := Option.map_eq_some_iff.1 read
    exact .inr (.inl ⟨rfl, b0, b1, b2, b3, b4, b5, b6, b7, b8, c, rfl, named, point, rfl⟩)
  case h_3 b0 b1 names =>
    obtain ⟨⟨low, high, count, named⟩, read⟩ := Option.ite_none_right_eq_some.1 read
    rw [pointCount_eq] at low high count
    refine .inr (.inr (.inl ⟨rfl, b0, b1, names, rfl, low, high, by simpa using count, fun b mem => ?_,
      (Option.some.inj read).symm⟩))
    simpa using List.all_eq_true.1 named _ (List.mem_map_of_mem mem)
  case h_4 b0 b1 b2 b3 b4 b5 b6 b7 =>
    obtain ⟨valid, c, point, same⟩ := report read
    exact .inr (.inr (.inr (.inl ⟨.inl rfl, b0, b1, b2, b3, b4, b5, b6, b7, c, rfl, valid, point, same⟩)))
  case h_5 b0 b1 b2 b3 b4 b5 b6 b7 =>
    obtain ⟨valid, c, point, same⟩ := report read
    exact .inr (.inr (.inr (.inl ⟨.inr rfl, b0, b1, b2, b3, b4, b5, b6, b7, c, rfl, valid, point, same⟩)))
  case h_6 => exact .inr (.inr (.inr (.inr ⟨.inl rfl, rfl, (Option.some.inj read).symm⟩)))
  case h_7 => exact .inr (.inr (.inr (.inr ⟨.inr rfl, rfl, (Option.some.inj read).symm⟩)))
  case h_8 => cases read

/-- A frame is read from its arbitration byte and what stands between length byte and check (R61). -/
theorem parseFrame_whole (a l h k : Byte) (body : List Byte) :
    parseFrame (a :: l :: (body ++ [h, k])) =
      if stationOfByte a = 0 then none else parseBody (classOfByte a) (stationOfByte a) body := by
  have inner : (body ++ [h, k]).take ((body ++ [h, k]).length - 2) = body := by simp
  rw [parseFrame, inner]

section WholeFrame

variable {a l h k : Byte} {body : List Byte} {source : Station}

/-- A frame is refused where no body of its class is read. -/
theorem parseFrame_eq_none (refused : ∀ f, parseBody (a.toNat / 32) (stationOfByte a) body ≠ some f) :
    parseFrame (a :: l :: (body ++ [h, k])) = none := by
  rw [parseFrame_whole, classOfByte_eq, Option.eq_none_iff_forall_ne_some.2 refused, ite_self]

/-- A frame of a station is read as its body is. -/
theorem parseFrame_of_station (station : a.toNat % 32 = source.toNat) (known : source ≠ 0) :
    parseFrame (a :: l :: (body ++ [h, k])) = parseBody (a.toNat / 32) source body := by
  rw [parseFrame_whole, classOfByte_eq, stationOfByte_eq station, if_neg known]

/-! ### Reading each kind of frame -/

theorem parseFrame_restoreCommand {b0 b1 serial : Byte} {target : Station} {slot : Slot}
    (station : a.toNat % 32 = source.toNat) (known : source ≠ 0) (cls : a.toNat / 32 = 0)
    (addressed : b0.toNat % 32 = target.toNat) (known' : target ≠ 0) (number : b1.toNat / 32 = slot.val) :
    parseFrame (a :: l :: ([b0, b1, serial] ++ [h, k])) =
      some (.restoreCommand source target slot (decide (b1.toNat % 2 = 1)) serial) := by
  have direct : b1.getLsbD 0 = decide (b1.toNat % 2 = 1) := by rw [getLsbD_eq_decide, pow_zero, Nat.div_one]
  rw [parseFrame_of_station station known, cls]
  change (if stationOfByte b0 = 0 then none else _) = _
  rw [stationOfByte_eq addressed, if_neg known', slotHigh_eq number, direct]

theorem parseFrame_settleAnswer {b0 b1 tag point serial b5 b6 b7 b8 : Byte} {requester : Station} {slot : Slot}
    {c : PointContent} (station : a.toNat % 32 = source.toNat) (known : source ≠ 0) (cls : a.toNat / 32 = 1)
    (addressed : b0.toNat % 32 = requester.toNat) (known' : requester ≠ 0) (number : b1.toNat % 8 = slot.val)
    (read : pointRead point serial (word b5 b6) (word b7 b8) c) :
    parseFrame (a :: l :: ([b0, b1, tag, point, serial, b5, b6, b7, b8] ++ [h, k])) =
      some (.settleAnswer source requester slot tag c) := by
  rw [parseFrame_of_station station known, cls]
  change (if stationOfByte b0 = 0 then none else Option.map _ (parsePoint point serial _ _)) = _
  rw [stationOfByte_eq addressed, if_neg known', slotLow_eq number, parsePoint_eq read]
  rfl

theorem parseFrame_settleRequest {b0 tag : Byte} {asked : List Byte} {slot : Slot}
    {points : List (Station × PointIndex)} (station : a.toNat % 32 = source.toNat) (known : source ≠ 0)
    (cls : a.toNat / 32 = 2) (number : b0.toNat / 32 = slot.val) (count : b0.toNat % 8 = points.length)
    (some' : 1 ≤ points.length) (few : points.length ≤ 4) (named : ∀ p ∈ points, p.1 ≠ 0)
    (numbers : asked.map (fun b => (b.toNat / 4 % 32, b.toNat % 4)) = points.map fun p => (p.1.toNat, p.2.val)) :
    parseFrame (a :: l :: (b0 :: tag :: asked ++ [h, k])) = some (.settleRequest source slot tag points) := by
  have all : points.all (fun p => p.1 != 0) = true := List.all_eq_true.2 fun p mem => by simpa using named p mem
  rw [parseFrame_of_station station known, cls]
  change (if 1 ≤ (b0.extractLsb' 0 3).toNat ∧ (b0.extractLsb' 0 3).toNat ≤ 4 ∧
    (asked.map pointNamed).length = (b0.extractLsb' 0 3).toNat ∧
      (asked.map pointNamed).all (fun p => p.1 != 0) = true then _ else none) = _
  rw [map_pointNamed_eq numbers, pointCount_eq, count, if_pos ⟨some', few, rfl, all⟩, slotHigh_eq number]

theorem parseFrame_countReport {point serial b2 b3 b4 b5 b6 b7 : Byte} {c : PointContent}
    (station : a.toNat % 32 = source.toNat) (known : source ≠ 0) (cls : a.toNat / 32 = 3 ∨ a.toNat / 32 = 5)
    (speed : word b6 b7 ≤ 999 ∨ word b6 b7 = 65535) (read : pointRead point serial (word b2 b3) (word b4 b5) c) :
    parseFrame (a :: l :: ([point, serial, b2, b3, b4, b5, b6, b7] ++ [h, k])) = some (.countReport source c) := by
  rw [parseFrame_of_station station known]
  have body : parseBody (a.toNat / 32) source [point, serial, b2, b3, b4, b5, b6, b7] =
      if speedValid (wordOf b6 b7) then
        (parsePoint point serial (wordOf b2 b3) (wordOf b4 b5)).map (.countReport source ·)
      else none := by
    rcases cls with cls | cls <;> (rw [cls]; rfl)
  rw [body, if_pos ((speedValid_iff b6 b7).2 speed), parsePoint_eq read]
  rfl

theorem parseFrame_sectionStatus (station : a.toNat % 32 = source.toNat) (known : source ≠ 0)
    (cls : a.toNat / 32 = 4 ∨ a.toNat / 32 = 6) (length : body.length = 8) :
    parseFrame (a :: l :: (body ++ [h, k])) = some (.sectionStatus source) := by
  rw [parseFrame_of_station station known]
  match body, length with
  | [_, _, _, _, _, _, _, _], _ => rcases cls with cls | cls <;> (rw [cls]; rfl)

end WholeFrame

/-- Settles O36: every body that is read is of one of the kinds, and each kind is read by its own fields. -/
theorem invalidFramesAreRefused : Obligations.InvalidFramesAreRefused := by
  intro a l h k body
  refine ⟨fun cls => ?_, fun station => ?_, fun cls bad => ?_, fun cls bad => ?_, fun cls bad => ?_,
    fun cls bad => ?_, fun cls bad => ?_, fun source station known => ⟨?_, ?_, ?_, ?_, ?_⟩⟩
  · refine parseFrame_eq_none fun f read => ?_
    rw [cls] at read
    cases read
  · rw [parseFrame_whole, if_pos ((stationOfByte_eq_zero_iff a).2 station)]
  · refine parseFrame_eq_none fun f read => ?_
    rw [cls] at read
    obtain ⟨_, b0, b1, b2, rfl, named, _⟩ | ⟨other, _⟩ | ⟨other, _⟩ | ⟨other, _⟩ | ⟨other, _⟩ := parseBody_eq_some read
    · rcases bad with length | ⟨b, rest, same, zero⟩
      · exact length rfl
      · obtain ⟨rfl, _⟩ := List.cons.inj same
        exact named ((stationOfByte_eq_zero_iff b0).2 zero)
    all_goals simp at other
  · refine parseFrame_eq_none fun f read => ?_
    rw [cls] at read
    obtain ⟨other, _⟩ | ⟨_, b0, b1, b2, b3, b4, b5, b6, b7, b8, c, rfl, named, point, _⟩ | ⟨other, _⟩ | ⟨other, _⟩ |
      ⟨other, _⟩ := parseBody_eq_some read
    case inr.inl =>
      rcases bad with length | ⟨b, rest, same, zero⟩ | ⟨b, same, code⟩
      · exact length rfl
      · obtain ⟨rfl, _⟩ := List.cons.inj same
        exact named ((stationOfByte_eq_zero_iff b0).2 zero)
      · obtain rfl : b3 = b := Option.some.inj same
        rw [parsePoint_invalid code] at point
        cases point
    all_goals simp at other
  · refine parseFrame_eq_none fun f read => ?_
    rw [cls] at read
    obtain ⟨other, _⟩ | ⟨other, _⟩ | ⟨_, b0, b1, names, rfl, low, high, count, named, _⟩ | ⟨other, _⟩ |
      ⟨other, _⟩ := parseBody_eq_some read
    case inr.inr.inl =>
      rcases bad with length | ⟨b, rest, same, bad⟩
      · simp at length
      · obtain ⟨rfl, rfl⟩ := List.cons.inj same
        rcases bad with zero | many | length | ⟨name, mem, zero⟩
        · omega
        · omega
        · simp only [List.length_cons] at length
          omega
        · refine named name mem (BitVec.eq_of_toNat_eq ?_)
          rw [(pointNamed_numbers name).1, zero]
          rfl
    all_goals simp at other
  · refine parseFrame_eq_none fun f read => ?_
    rcases parseBody_eq_some read with ⟨other, _⟩ | ⟨other, _⟩ | ⟨other, _⟩ |
      ⟨_, b0, b1, b2, b3, b4, b5, b6, b7, c, rfl, valid, point, _⟩ | ⟨other, _⟩
    case inr.inr.inr.inl =>
      rcases bad with length | ⟨b, rest, same, code⟩ | ⟨c6, c7, same6, same7, fast, present⟩
      · exact length rfl
      · obtain ⟨rfl, _⟩ := List.cons.inj same
        rw [parsePoint_invalid code] at point
        cases point
      · obtain rfl : b6 = c6 := Option.some.inj same6
        obtain rfl : b7 = c7 := Option.some.inj same7
        rcases (speedValid_iff b6 b7).1 valid with slow | absent
        · exact absurd slow (Nat.not_le.2 fast)
        · exact present absent
    all_goals
      clear read bad
      omega
  · refine parseFrame_eq_none fun f read => ?_
    obtain ⟨other, _⟩ | ⟨other, _⟩ | ⟨other, _⟩ | ⟨other, _⟩ | ⟨_, length, _⟩ := parseBody_eq_some read
    case inr.inr.inr.inr => exact bad length
    all_goals omega
  · rintro b0 b1 serial target slot cls rfl addressed known' number
    exact parseFrame_restoreCommand station known cls addressed known' number
  · rintro b0 b1 tag point serial b5 b6 b7 b8 requester slot c cls rfl addressed known' number read
    exact parseFrame_settleAnswer station known cls addressed known' number read
  · rintro b0 tag asked slot points cls rfl number count some' few named numbers
    exact parseFrame_settleRequest station known cls number count some' few named numbers
  · rintro point serial b2 b3 b4 b5 b6 b7 c cls rfl speed read
    exact parseFrame_countReport station known cls speed read
  · exact parseFrame_sectionStatus station known

end Sys2Proof.Machine

namespace Sys2Proof.Machine

open Sys2Proof.Claims

/-! ### A frame that is built is read as what it was built from (R61 to R64) -/

theorem Frame.encode_eq (f : Frame) : f.encode = arbitrationByte f.cls f.source :: BitVec.ofNat 8 f.body.length ::
    (f.body ++ [highByte (crc f.head), lowByte (crc f.head)]) := rfl

/-- The length byte of a frame that can be built is a good one (R61, R83). -/
theorem Frame.body_length {f : Frame} (built : buildable f) : 3 ≤ f.body.length ∧ f.body.length ≤ 9 := by
  cases f with
  | settleRequest source slot tag points =>
    obtain ⟨_, low, high, _⟩ := built
    simp only [Frame.body, List.length_cons, List.length_map]
    omega
  | countReport | settleAnswer | sectionStatus | restoreCommand => simp [Frame.body]

theorem Frame.encode_length (f : Frame) : f.encode.length = f.body.length + 4 := by simp [Frame.encode_eq]

theorem Frame.frameLength_encode {f : Frame} (built : buildable f) : frameLength f.encode = some f.encode.length := by
  obtain ⟨_, high⟩ := Frame.body_length built
  rw [Frame.encode_length, Frame.encode_eq, frameLength_cons_cons, BitVec.toNat_ofNat, Nat.mod_eq_of_lt (by omega)]

theorem Frame.classOf_encode (f : Frame) : classOf f.encode = f.cls := by
  have bound := f.source.isLt
  rw [Frame.encode_eq, classOf, classOfByte_eq, arbitrationByte_toNat]
  omega

theorem Frame.sourceOf_encode (f : Frame) : sourceOf f.encode = f.source := by
  have bound := f.source.isLt
  refine stationOfByte_eq ?_
  rw [arbitrationByte_toNat]
  omega

/-- The bytes that name the points of a SETTLE REQUEST read as those points (R134). -/
theorem asked_numbers {names : List Byte} {points : List (Station × PointIndex)}
    (numbers : names.map BitVec.toNat = points.map fun p => 4 * p.1.toNat + p.2.val) :
    names.map (fun b => (b.toNat / 4 % 32, b.toNat % 4)) = points.map fun p => (p.1.toNat, p.2.val) := by
  have fields : names.map (fun b => (b.toNat / 4 % 32, b.toNat % 4)) =
      (names.map BitVec.toNat).map fun k => (k / 4 % 32, k % 4) := by
    rw [List.map_map]
    rfl
  rw [fields, numbers, List.map_map]
  refine List.map_congr_left fun p _ => ?_
  have station := p.1.isLt
  have point := p.2.isLt
  exact Prod.ext (by simp only [Function.comp_apply]; omega) (by simp only [Function.comp_apply]; omega)

theorem parseFrame_encode {f : Frame} (built : buildable f) : parseFrame f.encode = some f.received := by
  obtain ⟨reports, answers, requests, statuses, restores⟩ := frameLayouts
  have station := f.source.isLt
  cases f with
  | countReport source change c speed =>
    obtain ⟨a, l, b0, b1, b2, b3, b4, b5, b6, b7, head, byte, _, point, serial, nAB, nBA, word⟩ :=
      reports source change c speed built
    have fast : Claims.word b6 b7 ≤ 999 ∨ Claims.word b6 b7 = 65535 := by
      rw [word]
      cases speed with
      | none => exact .inr rfl
      | some v => exact .inl (built.2 v rfl)
    have cls : a.toNat / 32 = 3 ∨ a.toNat / 32 = 5 := by
      cases change
      · right
        simp only [Frame.source] at station
        simp only [Bool.false_eq_true, if_false] at byte
        omega
      · left
        simp only [Frame.source] at station
        simp only [if_true] at byte
        omega
    rw [Frame.encode, head]
    refine parseFrame_countReport (source := source) ?_ built.1 cls fast ⟨point, serial, nAB, nBA⟩
    simp only [Frame.source] at station
    omega
  | settleAnswer source requester slot tag c =>
    obtain ⟨a, l, b0, b1, b3, b5, b6, b7, b8, head, byte, _, asker, number, point, nAB, nBA⟩ :=
      answers source requester slot tag c built
    have asker' := requester.isLt
    have number' := slot.isLt
    simp only [Frame.source] at station
    rw [Frame.encode, head]
    exact parseFrame_settleAnswer (source := source) (by omega) built.1 (by omega) (by omega) built.2 (by omega)
      ⟨point, rfl, nAB, nBA⟩
  | settleRequest source slot tag points =>
    obtain ⟨a, l, b0, names, head, byte, _, first, numbers⟩ := requests source slot tag points built
    obtain ⟨known, some', few, named⟩ := built
    have number' := slot.isLt
    simp only [Frame.source] at station
    rw [Frame.encode, head]
    exact parseFrame_settleRequest (source := source) (by omega) known (by omega) (by omega) (by omega) some' few named
      (asked_numbers numbers)
  | sectionStatus source change c =>
    simp only [Frame.source] at station
    have byte := arbitrationByte_toNat (.sectionStatus source change c)
    refine parseFrame_sectionStatus (source := source) ?_ built.1 ?_ rfl
    · rw [byte, Frame.source]
      omega
    · rw [byte, Frame.source]
      cases change
      · right
        simp only [Frame.cls, Bool.false_eq_true, if_false]
        omega
      · left
        simp only [Frame.cls, if_true]
        omega
  | restoreCommand source target slot direct serial =>
    obtain ⟨a, l, b0, b1, head, byte, _, addressed, number⟩ := restores source target slot direct serial built
    have addressed' := target.isLt
    have number' := slot.isLt
    have flag := bitOf_le direct
    simp only [Frame.source] at station
    have direct' : decide (b1.toNat % 2 = 1) = direct := by
      rw [Bool.eq_iff_iff, decide_eq_true_iff, ← bitOf_eq_one_iff]
      omega
    rw [Frame.encode, head, Frame.received, ← direct']
    exact parseFrame_restoreCommand (source := source) (by omega) built.1 (by omega) (by omega) built.2 (by omega)

/-- Settles O31: kind by kind from the frame tables, and what every frame has in common. -/
theorem readingUndoesBuilding : Obligations.ReadingUndoesBuilding := by
  intro f built
  obtain ⟨low, high⟩ := Frame.body_length built
  refine ⟨parseFrame_encode built, f.classOf_encode, f.sourceOf_encode, f.crc_encode, Frame.frameLength_encode built,
    ?_, ?_⟩ <;> rw [Frame.encode_length] <;> omega

/-! ### A whole frame, character by character (R81 to R87) -/

theorem bitValue_steady (one : Bool) : bitValue (steady one) = one := by cases one <;> rfl

theorem reads_steady (b : Byte) : reads ((bitsOf b).map steady) b := by
  rw [reads, List.map_map]
  exact (List.map_congr_left fun one _ => bitValue_steady one).trans (List.map_id _)

theorem runAll_append {first second : List Instr} {s t : State} (run : runAll first s = .next t) :
    runAll (first ++ second) s = runAll second t := by
  induction first generalizing s with
  | nil =>
    obtain rfl := Host.Outcome.next.inj run
    rfl
  | cons c rest ih =>
    rw [runAll] at run
    rw [List.cons_append, runAll]
    cases taken : exec c s with
    | next u =>
      rw [taken] at run
      exact ih run
    | fault f => cases f
    | refused r => rw [taken] at run; cases run

/-- A character: its start bit, then its byte. -/
theorem runAll_character {s : State} (listens : s.mode.listens = true) (outside : s.rx.inCharacter = false) (b : Byte) :
    runAll (characterCommands b) s = .next ((s.withRx (s.rx.takeStart false)).takeCharacter b) := by
  have start : exec (.startBit 16 (steady false)) s = .next (s.withRx (s.rx.takeStart false)) :=
    exec_startBit listens outside (by omega) (steady false)
  have inside : (s.withRx (s.rx.takeStart false)).rx.inCharacter = true := by
    rw [State.withRx_rx, Receiver.takeStart_zero]
  rw [characterCommands, runAll, start]
  change runAll [_] _ = _
  rw [runAll, exec_characterComplete (by exact listens) inside (reads_steady b)]
  rfl

/-- The part while it is assembling a frame of which these bytes have come, between two characters. -/
def State.assembled (s : State) (bytes : List Byte) : State :=
  s.withRx { s.rx with assembling := true, buffer := bytes, inCharacter := false, idleCount := 0, sent := none }

section Assembling

variable {s : State}

/-- The first character on an idle line begins a frame (R81). -/
theorem runAll_first (listens : s.mode.listens = true) (hunting : s.rx.assembling = false)
    (outside : s.rx.inCharacter = false) (idle : s.rx.idleCount = 12) (a : Byte) :
    runAll (characterCommands a) s = .next (s.assembled [a]) := by
  have start : s.rx.takeStart false = { s.rx with
      inCharacter := true, idleCount := 0, sent := none, assembling := true, buffer := [] } := by
    simp [Receiver.takeStart_zero, hunting, idle]
  rw [runAll_character listens outside, State.takeCharacter_first (by rw [start]; rfl) (by rw [start]; rfl), start]
  rfl

/-- A start bit within a frame goes on with it (R81). -/
theorem State.assembled_takeStart (s : State) (bytes : List Byte) :
    (s.assembled bytes).rx.takeStart false = { (s.assembled bytes).rx with inCharacter := true } := by
  rw [Receiver.takeStart_zero]
  simp [State.assembled]

theorem runAll_second (listens : s.mode.listens = true) (a : Byte) {l : Byte} (good : goodLength l = true) :
    runAll (characterCommands l) (s.assembled [a]) = .next (s.assembled [a, l]) := by
  rw [runAll_character (by exact listens) rfl, State.assembled_takeStart,
    State.takeCharacter_length (a := a) rfl rfl good]
  rfl

theorem runAll_later (listens : s.mode.listens = true) (a l b : Byte) {bytes : List Byte}
    (short : bytes.length + 3 ≠ l.toNat + 4) :
    runAll (characterCommands b) (s.assembled (a :: l :: bytes)) = .next (s.assembled (a :: l :: (bytes ++ [b]))) := by
  rw [runAll_character (by exact listens) rfl, State.assembled_takeStart,
    State.takeCharacter_body (a := a) (l := l) (rest := bytes) rfl rfl short]
  rfl

/-- The characters after the length byte, up to the last but one. -/
theorem runAll_body (listens : s.mode.listens = true) (a l : Byte) (more bytes : List Byte)
    (short : bytes.length + more.length + 2 < l.toNat + 4) :
    runAll (more.flatMap characterCommands) (s.assembled (a :: l :: bytes)) =
      .next (s.assembled (a :: l :: (bytes ++ more))) := by
  induction more generalizing bytes with
  | nil => rw [List.append_nil]; rfl
  | cons b more ih =>
    rw [List.length_cons] at short
    rw [List.flatMap_cons, runAll_append (runAll_later listens a l b (by omega)),
      ih _ (by rw [List.length_append, List.length_singleton]; omega), List.append_assoc, List.singleton_append]

end Assembling

/-- The last byte of a good frame of another station, with nothing waiting (R84 to R87). -/
theorem State.takeCharacter_last {s : State} {b : Byte} (whole : s.rx.completes b = true)
    (check : crc (s.rx.buffer ++ [b]) = 0#16) (foreign : s.station ≠ some (sourceOf (s.rx.buffer ++ [b])))
    (free : s.rx.handling = none) (empty : s.rx.fifo = []) :
    s.takeCharacter b = s.withRx { s.rx with
      assembling := false, buffer := [], inCharacter := false, idleCount := 0, sent := none
      handling := some (s.rx.buffer ++ [b]) } := by
  obtain ⟨assembling, _, two, _⟩ := Receiver.completes_iff.1 whole
  have buffer : (s.rx.takeByte b).buffer = s.rx.buffer ++ [b] := if_pos assembling
  have judged : s.takeCharacter b = (s.withRx (s.rx.takeByte b)).judgeFrame (s.rx.buffer ++ [b]) := by
    rcases s.takeCharacter_cases b with ⟨length, _, _⟩ | ⟨_, e⟩ | ⟨short, _, _⟩
    · have one := (Receiver.atLength_iff.1 length).2.2
      omega
    · rw [e, buffer]
    · exact nomatch short.symm.trans whole
  rw [judged]
  rcases State.judgeFrame_cases (s.withRx (s.rx.takeByte b)) (s.rx.buffer ++ [b]) with
    ⟨bad, _⟩ | ⟨_, own, _⟩ | ⟨_, own, _⟩ | ⟨_, _, e⟩
  · exact absurd check bad
  · exact absurd own foreign
  · exact absurd own foreign
  · have admission : ({ (s.rx.takeByte b).discard with sent := none } : Receiver).enqueue (s.rx.buffer ++ [b]) =
        { s.rx with
          assembling := false, buffer := [], inCharacter := false, idleCount := 0, sent := none
          handling := some (s.rx.buffer ++ [b]) } := by
      simp [Receiver.enqueue, Receiver.takeUp, Receiver.discard, Receiver.takeByte, empty, free, Config.fifoCapacity]
    exact e.trans (congrArg s.withRx admission)

/-- Settles O32: the first two characters, those of the body, and the last. -/
theorem wholeFrameIsReceived : Obligations.WholeFrameIsReceived := by
  intro s f built listens foreign hunting outside idle free empty
  obtain ⟨low, high⟩ := Frame.body_length built
  let a := arbitrationByte f.cls f.source
  let l := BitVec.ofNat 8 f.body.length
  let last := lowByte (crc f.head)
  let more := f.body ++ [highByte (crc f.head)]
  have length : l.toNat = f.body.length := by
    rw [BitVec.toNat_ofNat]
    exact Nat.mod_eq_of_lt (by omega)
  have bytes : f.encode = a :: l :: (more ++ [last]) := by
    rw [Frame.encode_eq, List.append_assoc]
    rfl
  have good : goodLength l = true := goodLength_iff.2 (by omega)
  have moreLength : more.length = l.toNat + 1 := by rw [length, List.length_append, List.length_singleton]
  have run : runAll (f.encode.flatMap characterCommands) s =
      runAll (characterCommands last) (s.assembled (a :: l :: more)) := by
    rw [bytes, List.flatMap_cons, runAll_append (runAll_first listens hunting outside idle a), List.flatMap_cons,
      runAll_append (runAll_second listens a good), List.flatMap_append,
      runAll_append (runAll_body listens a l more [] (by rw [List.length_nil]; omega)), List.flatMap_singleton]
    rfl
  have start := s.assembled_takeStart (a :: l :: more)
  have buffer : ((s.assembled (a :: l :: more)).rx.takeStart false).buffer ++ [last] = f.encode := by
    rw [start, bytes]
    rfl
  have whole : ((s.assembled (a :: l :: more)).rx.takeStart false).completes last = true := by
    refine Receiver.completes_iff.2 ⟨by rw [start]; rfl, by rw [start], by rw [start]; simp [State.assembled], ?_⟩
    rw [buffer, Frame.frameLength_encode built, ← buffer, List.length_append]
    rfl
  rw [run, runAll_character (by exact listens) rfl, State.takeCharacter_last whole]
  · rw [State.withRx_rx, buffer, start]
    rfl
  · rw [State.withRx_rx, buffer]
    exact f.crc_encode
  · rw [State.withRx_rx, buffer, Frame.sourceOf_encode]
    exact foreign
  · rw [State.withRx_rx, start]
    exact free
  · rw [State.withRx_rx, start]
    exact empty

/-! ### Handlings without effect (R64, R89, R90, R93) -/

/-- Lines that are sound are left as they are when they are driven. -/
theorem State.driveAttn_of_sound {s : State} (sound : AttnSound s) : s.driveAttn = s := by
  have level {x y : AttnLevel} (same : x = .active ↔ y = .active) : x = y := by cases x <;> cases y <;> simp_all
  have line0 := level ((s.attnLevel_active_iff false).trans sound.attn0.symm)
  have line1 := level ((s.attnLevel_active_iff true).trans sound.attn1.symm)
  unfold State.driveAttn
  rw [line0, line1]

theorem AttnSound.finishHandling {s : State} (sound : AttnSound s) : AttnSound s.finishHandling :=
  ⟨sound.attn0, sound.attn1⟩

/-- A handling whose effect leaves a sound state as it is frees the handler, and no more (R87, R90). -/
theorem State.finishHandling_settles {s : State} (pending : PendingSound s) (attn : AttnSound s) :
    s.finishHandling.preempt.driveAttn = { s with rx := handlerFreed s.rx } := by
  rw [State.preempt_of_lowest (by exact pending.lowest), State.driveAttn_of_sound attn.finishHandling,
    State.finishHandling_eq]
  rfl

section Handling

variable {s : State} {bytes : List Byte} {ofClass : Nat → Bool} {effect : Received → State → State}

theorem State.endHandling_invalid (listens : s.mode.listens = true) (handling : s.rx.handling = some bytes)
    (cls : ofClass (classOf bytes) = true) (invalid : parseFrame bytes = none) :
    s.endHandling ofClass effect = { s with rx := handlerFreed s.rx } := by
  rcases s.endHandling_cases ofClass effect with ⟨_, other⟩ | ⟨bytes', handling', _, _, ⟨_, e⟩ | ⟨f, read, _⟩⟩
  · exact absurd ⟨listens, cls⟩ (other bytes handling)
  · rw [e, State.finishHandling_eq]
    rfl
  · obtain rfl := Option.some.inj (handling.symm.trans handling')
    exact nomatch invalid.symm.trans read

theorem State.endHandling_valid (listens : s.mode.listens = true) (handling : s.rx.handling = some bytes)
    (cls : ofClass (classOf bytes) = true) {f : Received} (read : parseFrame bytes = some f) :
    s.endHandling ofClass effect = (effect f s).finishHandling.preempt.driveAttn := by
  rcases s.endHandling_cases ofClass effect with ⟨_, other⟩ | ⟨bytes', handling', _, _, ⟨invalid, _⟩ | ⟨g, read', e⟩⟩
  · exact absurd ⟨listens, cls⟩ (other bytes handling)
  · obtain rfl := Option.some.inj (handling.symm.trans handling')
    exact nomatch invalid.symm.trans read
  · obtain rfl := Option.some.inj (handling.symm.trans handling')
    obtain rfl := Option.some.inj (read.symm.trans read')
    exact e

end Handling

/-- The class numbers that a frame of each kind may have (R63). -/
def Received.ofClass : Received → Nat → Prop
  | .restoreCommand _ _ _ _ _, cls => cls = 0
  | .settleAnswer _ _ _ _ _, cls => cls = 1
  | .settleRequest _ _ _ _, cls => cls = 2
  | .countReport _ _, cls => cls = 3 ∨ cls = 5
  | .sectionStatus _, cls => cls = 4 ∨ cls = 6

/-- A frame that is read is of its class (R63). -/
theorem ofClass_of_parseFrame {bytes : List Byte} {f : Received} (read : parseFrame bytes = some f) :
    f.ofClass (classOf bytes) := by
  match bytes with
  | [] => cases read
  | [_] => cases read
  | a :: _ :: rest =>
    rw [parseFrame] at read
    obtain ⟨_, read⟩ := Option.ite_none_left_eq_some.1 read
    change f.ofClass (classOfByte a)
    rcases parseBody_eq_some read with ⟨cls, _, _, _, _, _, rfl⟩ |
      ⟨cls, _, _, _, _, _, _, _, _, _, _, _, _, _, rfl⟩ | ⟨cls, _, _, _, _, _, _, _, _, rfl⟩ |
      ⟨cls, _, _, _, _, _, _, _, _, _, _, _, _, rfl⟩ | ⟨cls, _, rfl⟩ <;> exact cls

theorem classOf_lt (bytes : List Byte) : classOf bytes < 8 := by
  cases bytes with
  | nil => decide
  | cons b _ =>
    have bound := b.isLt
    rw [classOf, classOfByte_eq]
    omega

/-- Every class has its command (R63, R90). -/
theorem exec_handlerCommand {cls : Nat} (range : cls < 8) (s : State) :
    ∃ ofClass effect, ofClass cls = true ∧ exec (handlerCommand cls) s = .next (s.endHandling ofClass effect) := by
  interval_cases cls <;> exact ⟨_, _, rfl, rfl⟩

/-- Settles O37: invalid frames, and valid ones whose effect is none. -/
theorem framesWithoutEffect : Obligations.FramesWithoutEffect := by
  intro s bytes listens handling
  have invalid (none : parseFrame bytes = none) :
      exec (handlerCommand (classOf bytes)) s = .next { s with rx := handlerFreed s.rx } := by
    obtain ⟨ofClass, effect, own, ends⟩ := exec_handlerCommand (classOf_lt bytes) s
    rw [ends, State.endHandling_invalid listens handling own none]
  refine ⟨invalid, fun seven => ?_, fun pending attn f read => ?_⟩
  · have none : parseFrame bytes = none := by
      refine Option.eq_none_iff_forall_ne_some.2 fun f read => ?_
      have cls := ofClass_of_parseFrame read
      rw [seven] at cls
      cases f <;> simp [Received.ofClass] at cls
    have ends := invalid none
    rwa [seven] at ends
  · have cls := ofClass_of_parseFrame read
    have settles {ofClass : Nat → Bool} {effect : Received → State → State} (own : ofClass (classOf bytes) = true)
        (nothing : effect f s = s) :
        s.endHandling ofClass effect = { s with rx := handlerFreed s.rx } := by
      rw [State.endHandling_valid listens handling own read, nothing, State.finishHandling_settles pending attn]
    refine ⟨?_, ?_, ?_⟩
    · rintro ⟨source, rfl⟩
      refine congrArg Host.Outcome.next (settles ?_ rfl)
      rcases cls with cls | cls <;> (rw [cls]; rfl)
    · rintro ⟨source, n, tag, points, rfl⟩ listening
      refine congrArg Host.Outcome.next (settles (by rw [show classOf bytes = 2 from cls]; rfl) ?_)
      exact if_neg (by rw [listening]; decide)
    · rintro ⟨source, target, n, direct, serial, rfl, other⟩
      refine congrArg Host.Outcome.next (settles (by rw [show classOf bytes = 0 from cls]; rfl) ?_)
      refine if_neg fun ⟨running, here, _⟩ => ?_
      rcases other with listening | elsewhere
      · exact nomatch running.symm.trans listening
      · exact elsewhere here

end Sys2Proof.Machine

namespace Sys2Proof.Machine

open Sys2Proof.Claims

/-! ### The expiry of a status timer (R66, R170) -/

/-- A due report or status that its periodic cause finds unstarted changes nothing (R46). -/
theorem Transmitter.hold_of_unstarted {t : Transmitter} {which : EntryKind → Bool} (kind : EntryKind)
    (changeClass periodicClass : Nat) (unstarted : t.holdsUnstarted which = true) :
    t.hold which kind changeClass periodicClass .periodic = t := by
  by_cases pending : t.isPending which = true
  · exact if_pos pending
  · exact (if_neg pending).trans (if_pos unstarted)

theorem Transmitter.hold_of_pending {t : Transmitter} {which : EntryKind → Bool} (kind : EntryKind)
    (changeClass periodicClass : Nat) (pending : t.isPending which = true) :
    t.hold which kind changeClass periodicClass .periodic = t := if_pos pending

theorem Transmitter.hold_of_neither {t : Transmitter} {which : EntryKind → Bool} (kind : EntryKind)
    (changeClass periodicClass : Nat) (unpending : ¬ t.isPending which = true)
    (unstarted : ¬ t.holdsUnstarted which = true) :
    t.hold which kind changeClass periodicClass .periodic = t.append kind periodicClass :=
  (if_neg unpending).trans (if_neg unstarted)

theorem exec_statusTimerExpiry {s : State} (running : s.mode = .running) {n : Slot}
    (timer : (s.tx.statusTimers.get n).running = true) :
    exec (.statusTimerExpiry n) s = .next (s.withTx (s.tx.expireStatus n)).preempt :=
  congrArg Host.Outcome.next (if_pos ⟨running, timer⟩)

/-- The transmitter after an expiry of the status timer of `n` that starts it again or leaves it stopped. -/
def Transmitter.statusTimedOut (t : Transmitter) (n : Slot) (timer : Timer) : Transmitter :=
  { t with statusTimers := t.statusTimers.set n timer }

theorem Transmitter.expireStatus_eq (t : Transmitter) (n : Slot) :
    t.expireStatus n =
      (t.statusTimedOut n (timerAfterExpiry (t.holdsUnstarted (EntryKind.isStatus n)))).statusDue n .periodic := rfl

theorem Transmitter.holdsStatus_iff {t : Transmitter} {n : Slot} :
    t.holdsUnstarted (EntryKind.isStatus n) = true ↔ heldUnstarted t (.status n) := by
  simp only [holdsUnstarted_iff, heldUnstarted_iff, EntryKind.isStatus_iff]

theorem Transmitter.statusPending_iff {t : Transmitter} {n : Slot} :
    t.isPending (EntryKind.isStatus n) = true ↔ ∃ e ∈ t.entries, e.kind = .status n := by
  simp only [isPending_iff, EntryKind.isStatus_iff]

/-- An unstarted status takes up the periodic cause and its timer starts again (R66, R170). -/
theorem Transmitter.expireStatus_of_unstarted {t : Transmitter} {n : Slot} (held : heldUnstarted t (.status n)) :
    t.expireStatus n = t.statusTimedOut n .started := by
  have unstarted := holdsStatus_iff.2 held
  have timer : timerAfterExpiry (t.holdsUnstarted (EntryKind.isStatus n)) = .started := if_pos unstarted
  rw [expireStatus_eq, timer]
  exact (t.statusTimedOut n .started).hold_of_unstarted _ _ _ unstarted

theorem Transmitter.statusTimer_of_unheld {t : Transmitter} {n : Slot} (unheld : ¬ heldUnstarted t (.status n)) :
    timerAfterExpiry (t.holdsUnstarted (EntryKind.isStatus n)) = .stopped :=
  if_neg fun held => unheld (holdsStatus_iff.1 held)

/-- A pending status takes up the periodic cause (R66). -/
theorem Transmitter.expireStatus_of_pending {t : Transmitter} {n : Slot}
    (pending : ∃ e ∈ t.entries, e.kind = .status n) (unheld : ¬ heldUnstarted t (.status n)) :
    t.expireStatus n = t.statusTimedOut n .stopped := by
  rw [expireStatus_eq, statusTimer_of_unheld unheld]
  exact (t.statusTimedOut n .stopped).hold_of_pending _ _ _ (statusPending_iff.2 pending)

/-- With neither, a status of class 6 is appended (R66). -/
theorem Transmitter.expireStatus_of_neither {t : Transmitter} {n : Slot}
    (absent : ∀ e ∈ t.entries, e.kind ≠ .status n) (unheld : ¬ heldUnstarted t (.status n)) :
    t.expireStatus n = (t.statusTimedOut n .stopped).append (.status n) 6 := by
  rw [expireStatus_eq, statusTimer_of_unheld unheld]
  refine (t.statusTimedOut n .stopped).hold_of_neither _ _ _ (fun pending => ?_)
    fun held => unheld (holdsStatus_iff.1 held)
  obtain ⟨e, mem, is⟩ := statusPending_iff.1 pending
  exact absent e mem is

/-- The status is pending or unstarted after the expiry, before any preemption (R66). -/
theorem Transmitter.expireStatus_holds (t : Transmitter) (n : Slot) :
    (t.expireStatus n).heldWhere fun e => e.kind = .status n := by
  by_cases unstarted : heldUnstarted t (.status n)
  · rw [expireStatus_of_unstarted unstarted]
    exact .inr unstarted
  · by_cases pending : ∃ e ∈ t.entries, e.kind = .status n
    · rw [expireStatus_of_pending pending unstarted]
      exact .inl pending
    · rw [expireStatus_of_neither (fun e mem is => pending ⟨e, mem, is⟩) unstarted]
      exact .inl ⟨_, List.mem_append_right _ (.head _), rfl⟩

/-- The status of a slot in use is not lost to preemption either (R67, R71). -/
theorem State.expireStatus_isHeld {s : State} {n : Slot} (used : (s.sections.get n).isSome = true) :
    isHeld (s.withTx (s.tx.expireStatus n)).preempt.tx (.status n) := by
  refine isHeld_iff.2 (Transmitter.heldWhere.preempt (s := s.withTx (s.tx.expireStatus n))
    (s.tx.expireStatus_holds n) (fun e is => ?_) (fun e is => ?_) fun lf _ f _ same either => ?_)
  · rw [State.buildFrame_isSome, is]
    exact used
  · rw [is]
    rfl
  · rcases either with is | is
    · rw [is] at same
      exact keyOf_eq_status_iff.1 same.symm
    · exact is

/-- Settles O21: by what takes up the expiry. -/
theorem statusTimerExpiryCompletes : Obligations.StatusTimerExpiryCompletes := by
  intro s n running timer
  rw [exec_statusTimerExpiry running timer]
  refine ⟨fun lowest => ⟨fun pending unheld => ?_, fun held => ?_, fun absent unheld stays => ?_⟩,
    fun used => ⟨_, rfl, State.expireStatus_isHeld used, State.preempt_lowest running⟩⟩
  · rw [Transmitter.expireStatus_of_pending pending unheld]
    exact congrArg Host.Outcome.next (State.preempt_of_lowest (by exact lowest))
  · rw [Transmitter.expireStatus_of_unstarted held]
    exact congrArg Host.Outcome.next (State.preempt_of_lowest (by exact lowest))
  · rw [Transmitter.expireStatus_of_neither absent unheld]
    refine congrArg Host.Outcome.next (State.preempt_of_lowest fun lf held e mem => ?_)
    rcases List.mem_append.1 mem with mem | mem
    · exact lowest lf held e mem
    · rw [List.mem_singleton.1 mem]
      exact stays.2 lf held

end Sys2Proof.Machine

namespace Sys2Proof.Machine

open Sys2Proof.Claims

/-! ### Answers that fall due (R135) -/

namespace Transmitter

variable {t : Transmitter} {requester : Station} {n : Slot} {p q : PointIndex} {tag : Serial}

/-- The list with the tag of this answer in the pending entry of its key (R135). -/
def retagged (t : Transmitter) (kind : EntryKind) : Transmitter :=
  { t with entries := t.entries.map fun e => if kind.sameKey e.kind then { e with kind := kind } else e }

/-- The rows of R135: a pending entry of the key, room for one more, or none. -/
theorem answerDue_cases (t : Transmitter) (requester : Station) (n : Slot) (p : PointIndex) (tag : Serial) :
    ((∃ e ∈ t.entries, keyOf e.kind = keyOf (.answer requester n p tag)) ∧
        t.answerDue requester n p tag = t.retagged (.answer requester n p tag)) ∨
      ((∀ e ∈ t.entries, keyOf e.kind ≠ keyOf (.answer requester n p tag)) ∧
        ((t.answersHeld < 8 ∧ t.answerDue requester n p tag = t.append (.answer requester n p tag) 1) ∨
          (8 ≤ t.answersHeld ∧ t.answerDue requester n p tag = t))) := by
  have pending : t.isPending (EntryKind.answer requester n p tag).sameKey = true ↔
      ∃ e ∈ t.entries, keyOf e.kind = keyOf (.answer requester n p tag) := by
    rw [isPending_iff]
    simp only [EntryKind.sameKey_iff, @eq_comm _ (keyOf (.answer requester n p tag))]
  by_cases due : t.isPending (EntryKind.answer requester n p tag).sameKey = true
  · exact .inl ⟨pending.1 due, if_pos due⟩
  · refine .inr ⟨fun e mem same => due (pending.2 ⟨e, mem, same⟩), ?_⟩
    by_cases room : t.answersHeld < 8
    · exact .inl ⟨room, (if_neg due).trans (if_pos room)⟩
    · exact .inr ⟨Nat.le_of_not_lt room, (if_neg due).trans (if_neg room)⟩

theorem retagged_answersHeld (t : Transmitter) (kind : EntryKind) : (t.retagged kind).answersHeld = t.answersHeld := by
  have keys : (t.retagged kind).entries.map Entry.key = t.entries.map Entry.key := by
    rw [retagged, List.map_map]
    refine List.map_congr_left fun e _ => ?_
    by_cases same : kind.sameKey e.kind = true
    · simp only [Function.comp_apply, if_pos same, Entry.key]
      exact EntryKind.sameKey_iff.1 same
    · simp only [Function.comp_apply, if_neg same]
  rw [answersHeld_eq, answersHeld_eq, keys]
  rfl

/-- An answer of this kind waits in the list, or 8 answers are held. -/
def answerListed (t : Transmitter) (kind : EntryKind) : Prop :=
  (∃ e ∈ t.entries, e.kind = kind) ∨ 8 ≤ t.answersHeld

theorem answerDue_answerListed (t : Transmitter) (requester : Station) (n : Slot) (p : PointIndex) (tag : Serial) :
    (t.answerDue requester n p tag).answerListed (.answer requester n p tag) := by
  rcases t.answerDue_cases requester n p tag with ⟨⟨e, mem, same⟩, due⟩ | ⟨_, ⟨_, due⟩ | ⟨full, due⟩⟩ <;> rw [due]
  · refine .inl ⟨_, List.mem_map.2 ⟨e, mem, rfl⟩, ?_⟩
    rw [if_pos (EntryKind.sameKey_iff.2 same.symm)]
  · exact .inl ⟨_, List.mem_append_right _ (.head _), rfl⟩
  · exact .inr full

/-- An answer to the same request for another point leaves it so. -/
theorem answerListed.answerDue (listed : t.answerListed (.answer requester n p tag)) :
    (t.answerDue requester n q tag).answerListed (.answer requester n p tag) := by
  rcases t.answerDue_cases requester n q tag with ⟨_, due⟩ | ⟨_, ⟨_, due⟩ | ⟨full, due⟩⟩ <;> rw [due]
  · rcases listed with ⟨e, mem, is⟩ | full
    · refine .inl ⟨_, List.mem_map.2 ⟨e, mem, rfl⟩, ?_⟩
      by_cases same : (EntryKind.answer requester n q tag).sameKey e.kind = true
      · rw [if_pos same]
        rw [EntryKind.sameKey_iff, is] at same
        injection same with _ _ point
        rw [point]
      · rw [if_neg same, is]
    · exact .inr (full.trans_eq (t.retagged_answersHeld _).symm)
  · refine listed.imp (fun ⟨e, mem, is⟩ => ⟨e, List.mem_append_left _ mem, is⟩) fun full => ?_
    rw [answersHeld_append]
    exact full.trans (Nat.le_add_right _ _)
  · exact .inr full

/-- An answer of this kind waits in the list or in the next layer, or 8 answers are held. -/
def answerTaken (t : Transmitter) (kind : EntryKind) : Prop :=
  (∃ e ∈ t.entries, e.kind = kind) ∨ (∃ lf ∈ t.next, lf.entry.kind = kind) ∨ 8 ≤ t.answersHeld

end Transmitter

/-- The answers of one requester, slot and point differ in their tags alone (R65). -/
theorem keyOf_eq_answer_iff {kind : EntryKind} {requester : Station} {n : Slot} {p : PointIndex} {tag : Serial} :
    keyOf kind = keyOf (.answer requester n p tag) ↔ ∃ old, kind = .answer requester n p old := by
  cases kind <;> simp [keyOf]

theorem foldl_answerPoint_live (source : Station) (n : Slot) (tag : Serial) (points : List (Station × PointIndex))
    (s : State) : (points.foldl (answerPoint source n tag) s).tx.live = s.tx.live := by
  refine List.foldlRecOn (motive := fun t : State => t.tx.live = s.tx.live) points (answerPoint source n tag) rfl
    fun t same b _ => ?_
  unfold answerPoint
  split
  · rw [State.withTx_tx]
    rcases t.tx.answerDue_cases source n b.2 tag with ⟨_, due⟩ | ⟨_, ⟨_, due⟩ | ⟨_, due⟩⟩ <;> rw [due] <;> exact same
  · exact same

/-! ### Answers and preemption (R67, R71) -/

theorem EntryKind.mayHold_pos {kind : EntryKind} {cls : Nat} (holds : kind.mayHold cls) : 1 ≤ cls := by
  cases kind <;> simp only [EntryKind.mayHold] at holds <;> omega

theorem EntryKind.mayHold_answer {kind : EntryKind} {cls : Nat} (answer : kind.isAnswer = true)
    (holds : kind.mayHold cls) : cls = 1 := by
  cases kind with
  | answer requester n p tag => exact holds
  | report p | status n | request n id tag => cases answer

/-- Where the frame that gives way is no answer, the answers in the list are as they were. -/
theorem State.givenWay_answers {s : State} {lf : LayerFrame} (other : lf.entry.kind.isAnswer = false) :
    ((s.givenWay lf).entries.filter fun e => e.kind.isAnswer).Perm
      (s.tx.entries.filter fun e => e.kind.isAnswer) := by
  rcases s.givenWay_cases lf with ⟨_, e⟩ | ⟨_, _, e⟩ | ⟨_, f, _, same, e⟩ <;> rw [e]
  · refine ((insertByPlace_perm lf.entry s.tx.entries).filter _).trans (.of_eq (List.filter_cons_of_neg ?_))
    rw [other]
    decide
  · have none : f.kind.isAnswer = false := by
      rw [← EntryKind.isAnswer_keyOf, same, EntryKind.isAnswer_keyOf, other]
    refine ((insertByPlace_perm (mergeEntries lf.entry f) _).filter _).trans (.of_eq ?_)
    have merged : ¬ (mergeEntries lf.entry f).kind.isAnswer = true := by
      rw [mergeEntries, none]
      decide
    rw [List.filter_cons_of_neg (p := fun e : Entry => e.kind.isAnswer) merged, List.filter_filter]
    refine List.filter_congr fun g _ => ?_
    by_cases here : g = f
    · rw [here, none]
      rfl
    · simp [here]

/-- Loading an empty layer keeps the answers: the one that leaves the list is loaded (R68). -/
theorem Transmitter.answerTaken.loadNext {s : State} (kept : PendingKept s) (empty : s.tx.next = none)
    {kind : EntryKind} (answer : kind.isAnswer = true) (taken : s.tx.answerTaken kind) :
    s.loadNext.tx.answerTaken kind := by
  rcases s.loadNext_cases with ⟨_, loaded⟩ | ⟨e, chosen, loaded⟩ <;> rw [loaded]
  · exact taken
  · have mem := (earliestLowest_spec chosen).1
    have builds (is : e.kind.isAnswer = true) : ∃ f, s.buildFrame e = some f := by
      refine Option.isSome_iff_exists.1 ?_
      rw [State.buildFrame_isSome]
      cases kind : e.kind with
      | answer requester n p tag => rfl
      | report p | status n | request n id tag => rw [kind] at is; cases is
    rcases taken with ⟨g, mem', is⟩ | ⟨lf, held, _⟩ | full
    · by_cases here : g = e
      · subst here
        obtain ⟨f, built⟩ := builds (is ▸ answer)
        exact .inr (.inl ⟨⟨g, f⟩, by rw [State.withTx_tx, built]; rfl, is⟩)
      · exact .inl ⟨g, List.mem_filter.2 ⟨mem', decide_eq_true here⟩, is⟩
    · exact nomatch empty.symm.trans held
    · refine .inr (.inr ?_)
      obtain ⟨_, _, count⟩ := kept.list.removed mem
      rw [Transmitter.answersHeld_of_none empty, count] at full
      by_cases is : e.kind.isAnswer = true
      · obtain ⟨f, built⟩ := builds is
        rw [State.withTx_tx, built, Transmitter.answersHeld_of_some rfl]
        exact full
      · rw [if_neg is] at full
        rw [State.withTx_tx, Transmitter.answersHeld_eq]
        exact full.trans (Nat.le_add_right _ _)

/-- Preemption keeps an answer that is taken: only a frame of a class above 1 gives way (R67, R71). -/
theorem Transmitter.answerTaken.preempt {s : State} (kept : PendingKept s) {kind : EntryKind}
    (answer : kind.isAnswer = true) (taken : s.tx.answerTaken kind) : s.preempt.tx.answerTaken kind := by
  rcases s.preempt_cases with ⟨_, e⟩ | ⟨lf, running, next, due, e⟩ <;> rw [e]
  · exact taken
  · obtain ⟨g, mem, lower⟩ := List.any_eq_true.1 due
    have above : 1 < lf.entry.cls :=
      (EntryKind.mayHold_pos (kept.list.entries g mem).2.1).trans_lt (of_decide_eq_true lower)
    have other : lf.entry.kind.isAnswer = false := by
      rw [← Bool.not_eq_true]
      exact fun is => absurd (EntryKind.mayHold_answer is (kept.list.next lf next).2.1) (Nat.ne_of_gt above)
    have answers := State.givenWay_answers (s := s) other
    have given : PendingKept (s.withTx (s.givenWay lf)) := ⟨kept.givenWay next, fun silent => absurd running silent⟩
    refine Transmitter.answerTaken.loadNext given (s.givenWay_next lf) answer ?_
    rcases taken with ⟨e, mem, is⟩ | ⟨lf', held, is⟩ | full
    · have listed := answers.mem_iff.2 (List.mem_filter.2 ⟨mem, by rw [is]; exact answer⟩)
      exact .inl ⟨e, (List.mem_filter.1 listed).1, is⟩
    · obtain rfl := Option.some.inj (next.symm.trans held)
      rw [is, answer] at other
      cases other
    · refine .inr (.inr (full.trans_eq ?_))
      unfold Transmitter.answersHeld
      rw [State.withTx_tx, answers.length_eq, s.givenWay_next, next]
      simp [layerHolds, other]

/-! ### A SETTLE REQUEST (R91, R135) -/

section Request

variable {s : State} {bytes : List Byte} {source own : Station} {n : Slot} {tag : Serial}
  {points : List (Station × PointIndex)} {p : PointIndex}

theorem handleSettleRequest_running (running : s.mode = .running) :
    handleSettleRequest (.settleRequest source n tag points) s =
      s.withTx (points.foldl (answerPoint source n tag) s).tx :=
  (if_pos running).trans (foldl_answerPoint_eq source n tag points s)

theorem exec_settleRequest (running : s.mode = .running) (handling : s.rx.handling = some bytes)
    (read : parseFrame bytes = some (.settleRequest source n tag points)) (attn : AttnSound s) :
    exec .settleRequest s =
      .next (s.finishHandling.withTx (points.foldl (answerPoint source n tag) s).tx).preempt := by
  have cls : classOf bytes = 2 := ofClass_of_parseFrame read
  have ends : exec .settleRequest s =
      .next (handleSettleRequest (.settleRequest source n tag points) s).finishHandling.preempt.driveAttn :=
    congrArg Host.Outcome.next (State.endHandling_valid (by rw [running]; rfl) handling (by rw [cls]; rfl) read)
  rw [ends, handleSettleRequest_running running]
  change Host.Outcome.next
    (s.finishHandling.withTx (points.foldl (answerPoint source n tag) s).tx).preempt.driveAttn = _
  rw [State.preempt_eq]
  exact congrArg Host.Outcome.next (State.driveAttn_of_sound ⟨attn.attn0, attn.attn1⟩)

/-- Points of other stations or not in use make nothing due (R91). -/
theorem foldl_answerPoint_of_none (station : s.station = some own)
    (none : ∀ p, (own, p) ∈ points → s.pointInUse p = false) : points.foldl (answerPoint source n tag) s = s := by
  refine List.foldlRecOn (motive := fun t : State => t = s) points (answerPoint source n tag) rfl fun t same b mem => ?_
  subst same
  refine if_neg fun ⟨here, used⟩ => ?_
  obtain rfl := Option.some.inj (station.symm.trans here)
  exact nomatch (none b.2 mem).symm.trans used

theorem answerPoint_of_inUse (station : s.station = some own) (used : s.pointInUse p = true) :
    answerPoint source n tag s (own, p) = s.withTx (s.tx.answerDue source n p tag) := if_pos ⟨station, used⟩

/-- Each named in-use point of this station has its answer listed, or 8 are held (R135). -/
theorem foldl_answerPoint_answerListed (station : s.station = some own) (mem : (own, p) ∈ points)
    (used : s.pointInUse p = true) :
    (points.foldl (answerPoint source n tag) s).tx.answerListed (.answer source n p tag) := by
  have same (t : State) (b : Station × PointIndex) :
      answerPoint source n tag t b = t ∨ answerPoint source n tag t b = t.withTx (t.tx.answerDue source n b.2 tag) := by
    unfold answerPoint
    split
    · exact .inr rfl
    · exact .inl rfl
  refine foldl_establishes (f := answerPoint source n tag) mem
    (kept := fun t => t.station = some own ∧ t.pointInUse p = true)
    (done := fun t => t.tx.answerListed (.answer source n p tag)) ⟨station, used⟩
    (fun t kept b _ => ?_) (fun t kept => ?_) fun t _ listed b => ?_
  · rcases same t b with e | e <;> rw [e] <;> exact kept
  · rw [answerPoint_of_inUse kept.1 kept.2]
    exact t.tx.answerDue_answerListed source n p tag
  · rcases same t b with e | e <;> rw [e]
    · exact listed
    · exact listed.answerDue

/-- One named in-use point of this station makes its answer due (R135). -/
theorem foldl_answerPoint_one (station : s.station = some own) (used : s.pointInUse p = true) :
    ([(own, p)].foldl (answerPoint source n tag) s).tx = s.tx.answerDue source n p tag := by
  rw [List.foldl_cons, answerPoint_of_inUse station used]
  rfl

end Request

/-- A new entry of the one lowest class is loaded at once before a frame of a higher class (R67, R71). -/
theorem State.preempt_loads {s : State} (running : s.mode = .running) {x : Transmitter} {lf : LayerFrame} {new : Entry}
    {f : Frame} (entries : x.entries = s.tx.entries ++ [new]) (counters : x.startCounters = s.tx.startCounters)
    (next : x.next = some lf) (lower : ∀ e ∈ s.tx.entries, new.cls < e.cls) (higher : new.cls < lf.entry.cls)
    (apart : keyOf lf.entry.kind ≠ keyOf new.kind) (built : s.buildFrame new = some f) :
    (s.withTx x).preempt.tx.next = some ⟨new, f⟩ ∧ returnedTo s lf (s.withTx x).preempt.tx.entries := by
  obtain ⟨mem, unique⟩ := State.givenWay_lowest (u := s.withTx x) entries lower higher apart
  have returned := State.givenWay_returned (u := s.withTx x) entries rfl lower higher apart
  have gives : (s.withTx x).preempt = (s.withTx ((s.withTx x).givenWay lf)).loadNext := by
    rcases (s.withTx x).preempt_cases with ⟨lowest, _⟩ | ⟨lf', _, next', _, e⟩
    · refine absurd (lowest running lf next new ?_) (Nat.not_le.2 higher)
      rw [State.withTx_tx, entries]
      exact List.mem_append_right _ (.head _)
    · obtain rfl := Option.some.inj (next.symm.trans next')
      exact e
  have built' : (s.withTx ((s.withTx x).givenWay lf)).buildFrame new = some f := by
    rw [s.buildFrame_withTx (by rw [State.givenWay_keeps]; exact counters), built]
  rcases (s.withTx ((s.withTx x).givenWay lf)).loadNext_cases with ⟨empty, _⟩ | ⟨e, chosen, loaded⟩
  · rw [State.withTx_tx] at empty
    rw [empty] at mem
    cases mem
  · obtain rfl := Option.some.inj (chosen.symm.trans (earliestLowest_of_unique mem unique))
    rw [gives, loaded, built']
    exact ⟨rfl, returned⟩

/-- Without a pending answer and with a frame of a higher class loaded, none is held. -/
theorem Transmitter.answersHeld_eq_zero {s : State} (kept : PendingKept s)
    (entries : ∀ e ∈ s.tx.entries, 1 < e.cls) (next : ∀ lf ∈ s.tx.next, 1 < lf.entry.cls) : s.tx.answersHeld = 0 := by
  have none : s.tx.entries.filter (fun e => e.kind.isAnswer) = [] := List.filter_eq_nil_iff.2 fun e mem is =>
    absurd (EntryKind.mayHold_answer is (kept.list.entries e mem).2.1) (Nat.ne_of_gt (entries e mem))
  have empty : ¬ layerHolds EntryKind.isAnswer s.tx.next = true := by
    cases held : s.tx.next with
    | none => exact Bool.false_ne_true
    | some lf =>
      exact fun is => absurd (EntryKind.mayHold_answer is (kept.list.next lf held).2.1) (Nat.ne_of_gt (next lf held))
  rw [Transmitter.answersHeld, none, if_neg empty]
  rfl

/-- An answer that is due while a frame of a higher class is loaded is loaded in its place (R67, R71, R135). -/
theorem State.answerDue_preempts {s : State} (running : s.mode = .running) (pending : PendingSound s) {lf : LayerFrame}
    (next : s.tx.next = some lf) (higher : 1 < lf.entry.cls) (requester : Station) (n : Slot) (p : PointIndex)
    (tag : Serial) :
    ∃ f, (s.withTx (s.tx.answerDue requester n p tag)).preempt.tx.next =
        some ⟨⟨.answer requester n p tag, 1, s.tx.nextPlace⟩, f⟩ ∧
      s.buildFrame ⟨.answer requester n p tag, 1, s.tx.nextPlace⟩ = some f ∧
      returnedTo s lf (s.withTx (s.tx.answerDue requester n p tag)).preempt.tx.entries := by
  have lower : ∀ e ∈ s.tx.entries, 1 < e.cls := fun e mem => higher.trans_le (pending.lowest lf next e mem)
  have isAnswer {kind : EntryKind} (same : keyOf kind = keyOf (.answer requester n p tag)) : kind.isAnswer = true := by
    rw [← EntryKind.isAnswer_keyOf, same]
    rfl
  have none : s.tx.answersHeld = 0 := Transmitter.answersHeld_eq_zero pending.kept lower fun lf' held => by
    obtain rfl := Option.some.inj (next.symm.trans held)
    exact higher
  have apart : keyOf lf.entry.kind ≠ keyOf (.answer requester n p tag) := fun same =>
    absurd (EntryKind.mayHold_answer (isAnswer same) (pending.next lf next).2.1) (Nat.ne_of_gt higher)
  obtain ⟨f, built⟩ : ∃ f, s.buildFrame ⟨.answer requester n p tag, 1, s.tx.nextPlace⟩ = some f := ⟨_, rfl⟩
  rcases s.tx.answerDue_cases requester n p tag with ⟨⟨e, mem, same⟩, _⟩ | ⟨_, ⟨_, due⟩ | ⟨full, _⟩⟩
  · exact absurd (EntryKind.mayHold_answer (isAnswer same) (pending.classes e mem)) (Nat.ne_of_gt (lower e mem))
  · rw [due]
    obtain ⟨loaded, returned⟩ := State.preempt_loads running (s := s)
      (x := s.tx.append (.answer requester n p tag) 1) rfl rfl next lower higher apart built
    exact ⟨f, loaded, built, returned⟩
  · omega

/-- The pending entry of an answer's key is the only one. -/
theorem PendingSound.sameKey_iff_eq {s : State} (pending : PendingSound s) {e g : Entry} (mem : e ∈ s.tx.entries)
    (mem' : g ∈ s.tx.entries) : keyOf g.kind = keyOf e.kind ↔ g = e :=
  ⟨fun same => List.inj_on_of_nodup_map pending.kept.list.distinct mem' mem same, fun same => by rw [same]⟩

/-- The rows of R135 where nothing is preempted. -/
theorem State.answerDue_settles {s : State} {requester : Station} {n : Slot}
    {p : PointIndex} {tag : Serial} (stays : notPreempted s.tx 1) :
    (s.withTx (s.tx.answerDue requester n p tag)).preempt = s.withTx (s.tx.answerDue requester n p tag) := by
  refine State.preempt_of_lowest ?_
  rw [State.withTx_tx]
  rcases s.tx.answerDue_cases requester n p tag with ⟨_, due⟩ | ⟨_, ⟨_, due⟩ | ⟨_, due⟩⟩ <;> rw [due]
  · intro lf held e mem
    obtain ⟨g, mem', rfl⟩ := List.mem_map.1 mem
    split <;> exact stays.1 lf held g mem'
  · intro lf held e mem
    rcases List.mem_append.1 mem with mem | mem
    · exact stays.1 lf held e mem
    · rw [List.mem_singleton.1 mem]
      exact stays.2 lf held
  · exact stays.1

/-- A pending answer of the key takes the new tag in its place (R135). -/
theorem Transmitter.answerDue_of_pending {s : State} (pending : PendingSound s) {requester : Station} {n : Slot}
    {p : PointIndex} {tag old : Serial} {e : Entry} (mem : e ∈ s.tx.entries) (is : e.kind = .answer requester n p old) :
    s.tx.answerDue requester n p tag = { s.tx with
      entries := s.tx.entries.map fun g => if g = e then { g with kind := .answer requester n p tag } else g } := by
  have key : keyOf e.kind = keyOf (.answer requester n p tag) := by
    rw [is]
    rfl
  rcases s.tx.answerDue_cases requester n p tag with ⟨_, due⟩ | ⟨absent, _⟩
  · rw [due, Transmitter.retagged]
    congr 1
    refine List.map_congr_left fun g mem' => if_congr ?_ rfl rfl
    rw [EntryKind.sameKey_iff, eq_comm, ← key, pending.sameKey_iff_eq mem mem']
  · exact absurd key (absent e mem)

/-- What a SETTLE REQUEST leaves before preemption is sound (R135). -/
theorem State.answered_kept {s : State} (running : s.mode = .running) (pending : PendingSound s) (source : Station)
    (n : Slot) (tag : Serial) (points : List (Station × PointIndex)) :
    PendingKept (s.finishHandling.withTx (points.foldl (answerPoint source n tag) s).tx) := by
  have follow : PendingFollow s := ⟨pending.kept, fun silent => absurd running silent⟩
  have handled := follow.handleSettleRequest (.settleRequest source n tag points)
  rw [handleSettleRequest_running running] at handled
  exact (handled.withRx (s.finishHandling).rx).kept

/-- Settles O40: the answers that fall due, and the preemption that follows. -/
theorem settleRequestCompletes : Obligations.SettleRequestCompletes := by
  intro s bytes source own n tag points running station handling read pending attn
  have kept := State.answered_kept running pending source n tag points
  have freed : PendingSound s.finishHandling := pending.withRx _
  refine ⟨_, exec_settleRequest running handling read attn, ?_, ?_, fun p mem used => ?_, fun none => ?_,
    fun p one used lf next higher => ?_, fun p one used stays => ?_⟩
  · rw [State.preempt_eq, State.finishHandling_eq]
    rfl
  · rw [(State.preempt_keeps _).1, State.withTx_tx]
    exact foldl_answerPoint_live source n tag points s
  · have listed := foldl_answerPoint_answerListed (source := source) (n := n) (tag := tag) station mem used
    have taken : (s.finishHandling.withTx (points.foldl (answerPoint source n tag) s).tx).tx.answerTaken
        (.answer source n p tag) := listed.imp id .inr
    exact (Transmitter.answerTaken.preempt kept rfl taken).imp id
      (.imp id fun full => le_antisymm kept.preempt.answers full)
  · rw [foldl_answerPoint_of_none station none, State.preempt_of_lowest (by exact pending.lowest)]
    rfl
  · subst one
    rw [foldl_answerPoint_one station used]
    exact State.answerDue_preempts (s := s.finishHandling) running freed next higher source n p tag
  · subst one
    rw [foldl_answerPoint_one station used]
    have settles := State.answerDue_settles (s := s.finishHandling) (requester := source) (n := n) (p := p) (tag := tag)
      stays
    refine ⟨fun e mem old is => ?_, fun absent => ?_⟩
    · exact (congrArg State.tx settles).trans (Transmitter.answerDue_of_pending pending mem is)
    · have due : (s.finishHandling.withTx (s.tx.answerDue source n p tag)).preempt.tx = s.tx.answerDue source n p tag :=
        congrArg State.tx settles
      rw [due]
      rcases s.tx.answerDue_cases source n p tag with ⟨⟨e, mem, same⟩, _⟩ | ⟨_, ⟨room, e⟩ | ⟨full, e⟩⟩
      · obtain ⟨old, is⟩ := keyOf_eq_answer_iff.1 same
        exact absurd is (absent e mem old)
      · exact ⟨fun _ => e, fun full => by omega⟩
      · exact ⟨fun room => by omega, fun _ => e⟩

end Sys2Proof.Machine

namespace Sys2Proof.Machine

open Sys2Proof.Claims

/-! ### What the events of other blocks leave of the transmitter (R42, R65 to R71, R136) -/

/-- The mode, the transmitter's state and counters, the presence of a live frame and the answers kept in HALTED stand,
and outside RUNNING an empty next layer stays empty. -/
structure TxStays (s t : State) : Prop where
  mode : t.mode = s.mode
  tx : TxKept s.tx t.tx
  kept : t.tx.keptLive = s.tx.keptLive ∧ t.tx.keptNext = s.tx.keptNext
  next : s.mode ≠ .running → s.tx.next = none → t.tx.next = none

namespace TxStays

variable {s t u : State}

theorem of_tx (mode : t.mode = s.mode) (tx : t.tx = s.tx) : TxStays s t := by
  refine ⟨mode, ?_, ?_, fun _ empty => ?_⟩ <;> rw [tx]
  · exact .refl _
  · exact ⟨rfl, rfl⟩
  · exact empty

theorem refl (s : State) : TxStays s s := of_tx rfl rfl

theorem trans (first : TxStays s t) (second : TxStays t u) : TxStays s u where
  mode := second.mode.trans first.mode
  tx := first.tx.trans second.tx
  kept := ⟨second.kept.1.trans first.kept.1, second.kept.2.trans first.kept.2⟩
  next := fun silent empty => second.next (first.mode ▸ silent) (first.next silent empty)

theorem foldl {α : Type} {f : State → α → State} (step : ∀ t a, TxStays t (f t a)) (l : List α) (s : State) :
    TxStays s (l.foldl f s) :=
  List.foldlRecOn (motive := fun t : State => TxStays s t) l f (refl s) fun t stays a _ => stays.trans (step t a)

/-- What writes the pending list and the timers alone. -/
theorem withTx (s : State) {x : Transmitter} (kept : TxKept s.tx x)
    (layers : x.keptLive = s.tx.keptLive ∧ x.keptNext = s.tx.keptNext ∧ x.next = s.tx.next) : TxStays s (s.withTx x) :=
  ⟨rfl, kept, ⟨layers.1, layers.2.1⟩, fun _ empty => layers.2.2.trans empty⟩

theorem hold (s : State) (which : EntryKind → Bool) (kind : EntryKind) (changeClass periodicClass : Nat)
    (cause : DueCause) : TxStays s (s.withTx (s.tx.hold which kind changeClass periodicClass cause)) :=
  withTx s (.hold _ _ _ _ _ _) (by rw [Transmitter.hold_eq]; exact ⟨rfl, rfl, rfl⟩)

theorem refresh (s : State) (concerns : EntryKind → Bool) (newClass : EntryKind → Nat → Nat) :
    TxStays s (s.refresh concerns newClass) :=
  ⟨rfl, .refresh s concerns newClass, ⟨rfl, rfl⟩, fun _ empty => congrArg (Option.map _) empty⟩

theorem pointChangeDue (s : State) (p : PointIndex) : TxStays s (s.pointChangeDue p) := by
  unfold State.pointChangeDue
  split
  · exact (hold s _ _ _ _ _).trans (refresh _ _ _)
  · exact refl s

theorem sectionChangeDue (s : State) (n : Slot) : TxStays s (s.sectionChangeDue n) := by
  unfold State.sectionChangeDue
  split
  · exact (hold s _ _ _ _ _).trans (refresh _ _ _)
  · exact refl s

theorem followRound (s : State) (n : Slot) (before after : Section) : TxStays s (s.followRound n before after) :=
  ⟨rfl, .followRound s n before after, by rw [State.followRound_tx]; exact ⟨rfl, rfl⟩, fun _ empty => by
    rw [State.followRound_tx]
    exact empty⟩

theorem applySection (s : State) (n : Slot) (f : Section → Section) : TxStays s (s.applySection n f) := by
  unfold State.applySection
  split
  · exact refl s
  · rename_i sec _
    have followed : TxStays s ((s.setSection n (f sec)).followRound n sec (f sec)) :=
      (of_tx (s := s) (t := s.setSection n (f sec)) rfl rfl).trans (followRound _ _ _ _)
    dsimp only
    split
    · exact followed.trans ((sectionChangeDue _ n).trans (of_tx rfl rfl))
    · exact followed

theorem notifySections (s : State) (notice : Option DisturbanceCause) (m : EntryIndex) :
    TxStays s (s.notifySections notice m) := foldl (fun t n => applySection t n _) allSlots s

theorem setMirror (s : State) (m : EntryIndex) (e : MirrorEntry) : TxStays s (s.setMirror m e) := of_tx rfl rfl

theorem present (s : State) (source : Station) (c : PointContent) : TxStays s (s.present source c) := by
  unfold State.present
  split
  · exact refl s
  · rename_i m _
    rcases s.presentAt_cases m c with ⟨_, e⟩ | ⟨held, _, ⟨_, e⟩ | ⟨v, _, e⟩⟩ <;> rw [e]
    · exact refl s
    · exact setMirror s m _
    · exact (setMirror s m _).trans (notifySections _ _ _)

theorem loadNext (running : s.mode = .running) : TxStays s s.loadNext := by
  refine ⟨s.loadNext_mode, ?_, ?_, fun silent => absurd running silent⟩
  · obtain ⟨live, state, failures, startCounters, _⟩ := s.loadNext_keeps
    exact ⟨state, failures, startCounters, by rw [live], fun _ => live⟩
  · rcases s.loadNext_cases with ⟨_, e⟩ | ⟨_, _, e⟩ <;> rw [e] <;> exact ⟨rfl, rfl⟩

theorem preempt (s : State) : TxStays s s.preempt := by
  rcases s.preempt_cases with ⟨_, e⟩ | ⟨lf, running, _, _, e⟩
  · rw [e]
    exact refl s
  · have given : TxStays s (s.withTx (s.givenWay lf)) := by
      rw [State.givenWay_keeps]
      exact ⟨rfl, ⟨rfl, rfl, rfl, rfl, fun _ => rfl⟩, ⟨rfl, rfl⟩, fun silent => absurd running silent⟩
    rw [e]
    exact given.trans (loadNext running)

/-- An event's end: preemption and the ATTN lines. -/
theorem driven (stays : TxStays s t) : TxStays s t.preempt.driveAttn :=
  (stays.trans (preempt t)).trans (of_tx rfl rfl)

theorem completeSweep (s : State) (r : Results) : TxStays s (s.completeSweep r) := by
  unfold State.completeSweep
  split
  · refine driven (State.sweep_preserves (P := fun t => TxStays s t) ?_
      (fun t n p stays => stays.trans (applySection t n _)) (fun t n l stays => stays.trans (of_tx rfl rfl))
      fun t draws stays => stays.trans (of_tx rfl rfl))
    exact (of_tx (s := s) (t := (s.sweepFront r).sweepRecords) rfl rfl).trans (foldl pointChangeDue _ _)
  · exact refl s

theorem answerPoint (requester : Station) (n : Slot) (tag : Serial) (s : State) (p : Station × PointIndex) :
    TxStays s (answerPoint requester n tag s p) := by
  unfold Machine.answerPoint
  split
  · rcases s.tx.answerDue_cases requester n p.2 tag with ⟨_, due⟩ | ⟨_, ⟨_, due⟩ | ⟨_, due⟩⟩ <;> rw [due] <;>
      exact withTx s ⟨rfl, rfl, rfl, rfl, fun _ => rfl⟩ ⟨rfl, rfl, rfl⟩
  · exact refl s

theorem expireReport (s : State) (p : PointIndex) : TxStays s (s.withTx (s.tx.expireReport p)) :=
  have due (timer : Timer) : TxStays s (s.withTx ((s.tx.timedOut p timer).reportDue p .periodic)) :=
    (withTx s (x := s.tx.timedOut p timer) ⟨rfl, rfl, rfl, rfl, fun _ => rfl⟩ ⟨rfl, rfl, rfl⟩).trans
      (hold (s.withTx (s.tx.timedOut p timer)) _ _ _ _ _)
  due _

theorem expireStatus (s : State) (n : Slot) : TxStays s (s.withTx (s.tx.expireStatus n)) :=
  have due (timer : Timer) : TxStays s (s.withTx ((s.tx.statusTimedOut n timer).statusDue n .periodic)) :=
    (withTx s (x := s.tx.statusTimedOut n timer) ⟨rfl, rfl, rfl, rfl, fun _ => rfl⟩ ⟨rfl, rfl, rfl⟩).trans
      (hold (s.withTx (s.tx.statusTimedOut n timer)) _ _ _ _ _)
  due _

theorem expireAge (s : State) (m : EntryIndex) (e : MirrorEntry) : TxStays s (s.expireAge m e) := by
  unfold State.expireAge
  split
  · exact driven ((setMirror s m _).trans (notifySections _ _ _))
  · exact refl s
  · exact refl s

theorem handleCountReport (f : Received) (s : State) : TxStays s (handleCountReport f s) := by
  cases f with
  | countReport source c => exact present s source c
  | _ => exact refl s

theorem handleSettleAnswer (f : Received) (s : State) : TxStays s (handleSettleAnswer f s) := by
  cases f with
  | settleAnswer source requester n tag c =>
    unfold Machine.handleSettleAnswer
    dsimp only
    split
    · exact (present s source c).trans (applySection _ _ _)
    · exact present s source c
  | _ => exact refl s

theorem handleSettleRequest (f : Received) (s : State) : TxStays s (handleSettleRequest f s) := by
  unfold Machine.handleSettleRequest
  split
  · split
    · exact foldl (answerPoint _ _ _) _ s
    · exact refl s
  · exact refl s

theorem handleRestoreCommand (f : Received) (s : State) : TxStays s (handleRestoreCommand f s) := by
  unfold Machine.handleRestoreCommand
  split
  · split
    · exact applySection _ _ _
    · exact refl s
  · exact refl s

theorem endHandling (s : State) (ofClass : Nat → Bool) {effect : Received → State → State}
    (stays : ∀ f, TxStays s (effect f s)) : TxStays s (s.endHandling ofClass effect) := by
  rcases s.endHandling_cases ofClass effect with ⟨e, _⟩ | ⟨_, _, _, _, ⟨_, e⟩ | ⟨f, _, e⟩⟩ <;> rw [e]
  · exact refl s
  · exact of_tx rfl rfl
  · exact driven ((stays f).trans (of_tx (t := (effect f s).finishHandling) rfl rfl))

end TxStays

/-! ### The transmitter is sound (R49, R72 to R79, R136) -/

/-- What the entry to HALTED takes on of a sound transmitter (R79). -/
structure Transmitter.HaltReady (t : Transmitter) : Prop where
  sending : t.state = .sending → t.live.isSome = true
  mute : t.state = .mute ↔ t.failures = Config.failureLimit
  failures : t.failures ≤ Config.failureLimit
  starts : ∀ p, t.startCounters.get p ≤ Config.startFrames

namespace TxSound

variable {s t : State}

theorem of_stays (sound : TxSound s) (stays : TxStays s t) : TxSound t := by
  obtain ⟨mode, ⟨state, failures, starts, held, _⟩, ⟨keptLive, keptNext⟩, next⟩ := stays
  constructor
  case live => rw [held, state]; exact sound.live
  case silent =>
    rw [mode, state]
    exact fun silent => ⟨next silent (sound.silent silent).1, (sound.silent silent).2⟩
  case mute => rw [state, failures]; exact sound.mute
  case muteHalts => rw [state, mode]; exact sound.muteHalts
  case failures => rw [failures]; exact sound.failures
  case starts => rw [starts]; exact sound.starts
  case kept => rw [mode, keptLive, keptNext]; exact sound.kept
  case keptLive => rw [keptLive]; exact sound.keptLive
  case keptNext => rw [keptNext]; exact sound.keptNext

theorem haltReady (sound : TxSound s) : s.tx.HaltReady :=
  ⟨fun sending => sound.live.2 (.inr (.inr sending)), sound.mute, sound.failures, sound.starts⟩

/-- Outside HALTED the transmitter is not muted, and has failed 15 times at most (R77). -/
theorem failures_lt (sound : TxSound s) (unmuted : s.tx.state ≠ .mute) : s.tx.failures < Config.failureLimit :=
  Nat.lt_of_le_of_ne sound.failures fun full => unmuted (sound.mute.2 full)

theorem muted (sound : TxSound s) (unmuted : s.tx.state ≠ .mute) (last : s.tx.lastFailure = true) :
    s.tx.muted.HaltReady := by
  have full : s.tx.failures + 1 = Config.failureLimit :=
    le_antisymm (sound.failures_lt unmuted) (of_decide_eq_true last)
  exact ⟨fun sending => (nomatch sending), iff_of_true rfl full, full.le, sound.starts⟩

/-- A transmitter in RUNNING that is not muted. -/
theorem of_running (running : t.mode = .running)
    (live : t.tx.live.isSome = true ↔ t.tx.state = .waiting ∨ t.tx.state = .arbitrating ∨ t.tx.state = .sending)
    (unmuted : t.tx.state ≠ .mute) (failures : t.tx.failures < Config.failureLimit)
    (starts : ∀ p, t.tx.startCounters.get p ≤ Config.startFrames)
    (kept : t.tx.keptLive = none ∧ t.tx.keptNext = none) : TxSound t where
  live := live
  silent := fun silent => absurd running silent
  mute := iff_of_false unmuted (Nat.ne_of_lt failures)
  muteHalts := fun mute => absurd mute unmuted
  failures := failures.le
  starts := starts
  kept := fun _ => kept
  keptLive := fun _ held => nomatch kept.1.symm.trans held
  keptNext := fun _ held => nomatch kept.2.symm.trans held

/-- A frame in the live layer and the transmitter in one of the states that have one (R72 to R76). -/
theorem withLive (sound : TxSound s) (running : s.mode = .running) {x : Transmitter} (live : x.live.isSome = true)
    (state : x.state = .waiting ∨ x.state = .arbitrating ∨ x.state = .sending)
    (failures : x.failures < Config.failureLimit) (starts : x.startCounters = s.tx.startCounters)
    (kept : x.keptLive = s.tx.keptLive ∧ x.keptNext = s.tx.keptNext) : TxSound (s.withTx x) := by
  have none := sound.kept (by rw [running]; decide)
  refine .of_running running (iff_of_true live state) ?_ failures ?_ ⟨kept.1.trans none.1, kept.2.trans none.2⟩
  · rw [State.withTx_tx]
    rintro mute
    rcases state with state | state | state <;> exact nomatch state.symm.trans mute
  · rw [State.withTx_tx, starts]
    exact sound.starts

/-- The entry to HALTED (R79, R136). -/
theorem enterHalted (ready : s.tx.HaltReady) (halted : s.mode ≠ .halted) (cause : HaltCause) :
    TxSound (s.enterHalted cause) := by
  have mode := (State.enterHalted_mode halted cause).1
  obtain ⟨x, tx, state, failures, starts, held, _⟩ := State.enterHalted_kept halted cause
  have states := x.halt_states
  have ready' : x.HaltReady := by
    refine ⟨?_, ?_, ?_, ?_⟩
    · rw [state, held]; exact ready.sending
    · rw [state, failures]; exact ready.mute
    · rw [failures]; exact ready.failures
    · rw [starts]; exact ready.starts
  have answers (layer : Option LayerFrame) : ∀ lf ∈ heldAnswer layer, lf.entry.kind.isAnswer = true :=
    fun lf held => (Option.filter_eq_some_iff.1 held).2
  have layers : (x.halt.live.isSome = true ↔ x.halt.state = .sending) ∧
      (x.halt.state = .quiet ∨ x.halt.state = .sending ∨ x.halt.state = .mute) ∧
      (x.halt.state = .mute ↔ x.state = .mute) ∧ ∀ lf ∈ x.halt.keptLive, lf.entry.kind.isAnswer = true := by
    by_cases sending : x.state = .sending
    · obtain ⟨live, keptLive⟩ := x.halt_live.1 sending
      rw [states.1 sending, live, keptLive, sending]
      exact ⟨iff_of_true (ready'.sending sending) rfl, .inr (.inl rfl), by decide, fun _ held => nomatch held⟩
    · obtain ⟨live, keptLive⟩ := x.halt_live.2 sending
      rw [live, keptLive]
      by_cases mute : x.state = .mute
      · rw [states.2.1 mute, mute]
        exact ⟨by decide, .inr (.inr rfl), by decide, answers _⟩
      · rw [states.2.2 sending mute]
        exact ⟨by decide, .inl rfl, iff_of_false (by decide) mute, answers _⟩
  obtain ⟨live, stopped, muteIff, keptLive⟩ := layers
  constructor
  case live =>
    rw [tx, live]
    rcases stopped with e | e | e <;> rw [e] <;> decide
  case silent =>
    rw [tx, mode]
    exact fun _ => ⟨rfl, stopped.imp id fun e => ⟨rfl, e⟩⟩
  case mute => rw [tx, muteIff]; exact ready'.mute
  case muteHalts => exact fun _ => mode
  case failures => rw [tx]; exact ready'.failures
  case starts => rw [tx]; exact ready'.starts
  case kept => exact fun silent => absurd mode silent
  case keptLive => rw [tx]; exact keptLive
  case keptNext => rw [tx]; exact answers _

end TxSound

end Sys2Proof.Machine

namespace Sys2Proof.Machine

open Sys2Proof.Claims

/-! ### What the events within a mode leave of the controller and mirror table (R94 to R102, R175 to R183) -/

/-- What the start-up controller holds. -/
def State.control (s : State) :
    Mode × Option HaltCause × Option Station × Option LoadedConfig × Bool × Nat × Timer × Timer :=
  (s.mode, s.cause, s.station, s.config, s.cfgSelectLow, s.cfgClock, s.loadingTimer, s.listeningTimer)

@[simp] theorem State.withTx_control (s : State) (x : Transmitter) : (s.withTx x).control = s.control := rfl
@[simp] theorem State.withRx_control (s : State) (x : Receiver) : (s.withRx x).control = s.control := rfl
@[simp] theorem State.withSectionParts_control (s t : State) : (s.withSectionParts t).control = s.control := rfl
@[simp] theorem State.setMirror_control (s : State) (m : EntryIndex) (e : MirrorEntry) :
    (s.setMirror m e).control = s.control := rfl
@[simp] theorem State.driveAttn_control (s : State) : s.driveAttn.control = s.control := rfl

@[simp] theorem State.preempt_control (s : State) : s.preempt.control = s.control := by
  rw [State.preempt_eq, State.withTx_control]

@[simp] theorem State.applySection_control (s : State) (n : Slot) (f : Section → Section) :
    (s.applySection n f).control = s.control := by
  rw [State.applySection_eq, State.withSectionParts_control]

@[simp] theorem State.notifySections_control (s : State) (notice : Option DisturbanceCause) (m : EntryIndex) :
    (s.notifySections notice m).control = s.control := by
  rw [State.notifySections_eq, State.withSectionParts_control]

@[simp] theorem State.completeSweep_control (s : State) (r : Results) : (s.completeSweep r).control = s.control := by
  cases listens : s.mode.listens
  · rw [State.completeSweep_silent listens]
  · have writes := State.completeSweep_eq listens r
    generalize s.completeSweep r = t at writes
    rw [writes]
    rfl

@[simp] theorem State.completeFrame_control (s : State) (lf : LayerFrame) :
    (s.completeFrame lf).control = s.control := by
  rw [State.completeFrame_eq, State.spendStart_eq, State.withTx_control, State.sentFrame]
  dsimp only
  split <;> rfl

/-- The age timer runs exactly while the entry is FRESH and the line is observed; only a FRESH entry has an overtaken
expiry (R94, R99, R102). -/
def MirrorEntry.timely (listens : Bool) (e : MirrorEntry) : Prop :=
  (e.age.running = true ↔ (∃ v, e.hold = .fresh v) ∧ listens = true) ∧ (e.overtaken = true → ∃ v, e.hold = .fresh v)

/-- Every entry is one that stood at its place, of the same point, and is timely if that was. -/
def MirrorStays (s t : State) : Prop :=
  ∀ m, ∀ e' ∈ t.mirror.get m, ∃ e ∈ s.mirror.get m, e'.name = e.name ∧
    (e.timely s.mode.listens → e'.timely s.mode.listens)

theorem MirrorStays.of_mirror {s t : State} (mirror : t.mirror = s.mirror) : MirrorStays s t :=
  fun _ e held => ⟨e, mirror ▸ held, rfl, id⟩

/-- One entry is written. -/
theorem MirrorStays.set {s t : State} {m : EntryIndex} {e e' : MirrorEntry} (held : s.mirror.get m = some e)
    (mirror : t.mirror = s.mirror.set m (some e')) (name : e'.name = e.name)
    (timely : e.timely s.mode.listens → e'.timely s.mode.listens) : MirrorStays s t := by
  intro k f held'
  rw [mirror] at held'
  by_cases here : k = m
  · subst here
    obtain rfl := Option.some.inj ((Table.get_set_same _ _ _).symm.trans held')
    exact ⟨e, held, name, timely⟩
  · exact ⟨f, (Table.get_set_other _ _ here).symm.trans held', rfl, id⟩

theorem MirrorEntry.timely_of_fresh {e : MirrorEntry} {v : MirrorView} (fresh : e.hold = .fresh v)
    (running : e.age.running = true) : e.timely true :=
  ⟨iff_of_true running ⟨⟨v, fresh⟩, rfl⟩, fun _ => ⟨v, fresh⟩⟩

theorem MirrorEntry.accept_timely (e : MirrorEntry) (c : PointContent) : (e.accept c).timely true :=
  timely_of_fresh (v := c.view) rfl rfl

/-- An entry whose expiry has been overtaken runs on FRESH (R99, log 34). -/
theorem MirrorEntry.passOver_timely {e : MirrorEntry} {listens : Bool} (timely : e.timely listens) :
    e.passOver.timely listens := ⟨timely.1, fun overtaken => nomatch overtaken⟩

/-- An entry that grows STALE has its age timer stopped; an expiry takes place only where none has overtaken it
(R99, log 34). -/
theorem MirrorEntry.expire_timely {e : MirrorEntry} {listens : Bool} (kept : e.overtaken = false)
    (timely : e.timely listens) : e.expire.timely listens := by
  unfold MirrorEntry.expire
  split
  · exact ⟨iff_of_false Bool.false_ne_true fun ⟨⟨_, fresh⟩, _⟩ => (nomatch fresh),
      fun overtaken => nomatch kept.symm.trans overtaken⟩
  · exact timely
  · exact timely

theorem MirrorEntry.expire_name (e : MirrorEntry) : e.expire.name = e.name := by
  unfold MirrorEntry.expire
  split <;> rfl

theorem Timer.tick_running (t : Timer) (length : Nat) : (t.tick length).running = t.running := by
  unfold Timer.tick
  split <;> rfl

/-- A microsecond leaves an age timer running, and what has been overtaken is past (R99, log 34). -/
theorem MirrorEntry.tick_timely {e : MirrorEntry} {listens : Bool} (timely : e.timely listens) :
    e.tick.timely listens :=
  ⟨(Bool.eq_iff_iff.1 (e.age.tick_running Config.ageTime)).trans timely.1, fun overtaken => nomatch overtaken⟩

/-- At the entry to HALTED every age timer stops (R102). -/
theorem MirrorEntry.halt_timely {e : MirrorEntry} {listens : Bool} (timely : e.timely listens) :
    e.halt.timely false := ⟨iff_of_false Bool.false_ne_true fun ⟨_, observed⟩ => (nomatch observed), timely.2⟩

/-- An event within a mode: the controller stands, and every mirror entry is timely if it was. -/
structure ControlStays (s t : State) : Prop where
  control : t.control = s.control
  mirror : MirrorStays s t

namespace ControlStays

variable {s t u : State}

theorem of_mirror (control : t.control = s.control) (mirror : t.mirror = s.mirror) : ControlStays s t :=
  ⟨control, .of_mirror mirror⟩

theorem refl (s : State) : ControlStays s s := of_mirror rfl rfl

theorem then_same (stays : ControlStays s t) (control : u.control = t.control) (mirror : u.mirror = t.mirror) :
    ControlStays s u :=
  ⟨control.trans stays.control, fun m e held => stays.mirror m e (mirror ▸ held)⟩

theorem withTx (s : State) (x : Transmitter) : ControlStays s (s.withTx x) :=
  of_mirror (s.withTx_control x) (s.withTx_mirror x)

theorem withRx (s : State) (x : Receiver) : ControlStays s (s.withRx x) :=
  of_mirror (s.withRx_control x) (s.withRx_mirror x)

theorem then_preempt (stays : ControlStays s t) : ControlStays s t.preempt :=
  stays.then_same t.preempt_control t.preempt_mirror

/-- An event's end: preemption and the ATTN lines. -/
theorem driven (stays : ControlStays s t) : ControlStays s t.preempt.driveAttn :=
  stays.then_preempt.then_same (State.driveAttn_control _) (State.driveAttn_mirror _)

theorem then_applySection (stays : ControlStays s t) (n : Slot) (f : Section → Section) :
    ControlStays s (t.applySection n f) :=
  stays.then_same (t.applySection_control n f) (t.applySection_mirror n f)

theorem then_notifySections (stays : ControlStays s t) (notice : Option DisturbanceCause) (m : EntryIndex) :
    ControlStays s (t.notifySections notice m) :=
  stays.then_same (t.notifySections_control notice m) (t.notifySections_mirror notice m)

/-- A frame's counts make the entry FRESH, its age timer started (R94). -/
theorem present (listens : s.mode.listens = true) (source : Station) (c : PointContent) :
    ControlStays s (s.present source c) := by
  unfold State.present
  split
  · exact refl s
  · rename_i m _
    have taken {e : MirrorEntry} (held : s.mirror.get m = some e) : ControlStays s (s.setMirror m (e.accept c)) := by
      refine ⟨s.setMirror_control m _, .set held (s.setMirror_mirror m _) rfl fun _ => ?_⟩
      rw [listens]
      exact e.accept_timely c
    rcases s.presentAt_cases m c with ⟨_, e⟩ | ⟨entry, held, ⟨_, e⟩ | ⟨v, _, e⟩⟩ <;> rw [e]
    · exact refl s
    · exact taken held
    · exact (taken held).then_notifySections _ _

theorem completeSweep (s : State) (r : Results) : ControlStays s (s.completeSweep r) := by
  cases listens : s.mode.listens
  · rw [State.completeSweep_silent listens]
    exact refl s
  · exact of_mirror (s.completeSweep_control r) (State.completeSweep_mirror listens r)

theorem completeFrame (s : State) (lf : LayerFrame) : ControlStays s (s.completeFrame lf) := by
  refine of_mirror (s.completeFrame_control lf) ?_
  rw [State.completeFrame_eq, State.spendStart_mirror, State.sentFrame]
  dsimp only
  split <;> rfl

/-- An expiry that has not been overtaken (R99). -/
theorem expireAge {m : EntryIndex} {e : MirrorEntry} (held : s.mirror.get m = some e) (kept : e.overtaken = false) :
    ControlStays s (s.expireAge m e) := by
  have expired : ControlStays s (s.setMirror m e.expire) :=
    ⟨s.setMirror_control m _, .set held (s.setMirror_mirror m _) e.expire_name (MirrorEntry.expire_timely kept)⟩
  unfold State.expireAge
  split
  · exact (expired.then_notifySections _ _).driven
  · exact refl s
  · exact refl s

theorem handleCountReport (listens : s.mode.listens = true) (f : Received) :
    ControlStays s (handleCountReport f s) := by
  cases f with
  | countReport source c => exact present listens source c
  | _ => exact refl s

theorem handleSettleAnswer (listens : s.mode.listens = true) (f : Received) :
    ControlStays s (handleSettleAnswer f s) := by
  cases f with
  | settleAnswer source requester n tag c =>
    unfold Machine.handleSettleAnswer
    dsimp only
    split
    · exact (present listens source c).then_applySection _ _
    · exact present listens source c
  | _ => exact refl s

theorem handleSettleRequest (f : Received) (s : State) : ControlStays s (handleSettleRequest f s) := by
  unfold Machine.handleSettleRequest
  split
  · split
    · rw [foldl_answerPoint_eq]
      exact withTx _ _
    · exact refl s
  · exact refl s

theorem handleRestoreCommand (f : Received) (s : State) : ControlStays s (handleRestoreCommand f s) := by
  unfold Machine.handleRestoreCommand
  split
  · split
    · exact (refl s).then_applySection _ _
    · exact refl s
  · exact refl s

theorem endHandling (s : State) (ofClass : Nat → Bool) {effect : Received → State → State}
    (stays : s.mode.listens = true → ∀ f, ControlStays s (effect f s)) :
    ControlStays s (s.endHandling ofClass effect) := by
  rcases s.endHandling_cases ofClass effect with ⟨e, _⟩ | ⟨_, _, listens, _, ⟨_, e⟩ | ⟨f, _, e⟩⟩ <;> rw [e]
  · exact refl s
  · exact withRx _ _
  · exact ((stays listens f).then_same (State.withRx_control _ _) (State.withRx_mirror _ _)).driven

end ControlStays

/-! ### What a command does to controller, mirror table and transmitter -/

/-- What a command can make of the start-up controller, the mirror table and the transmitter: an event within the mode,
or one of the transitions (R175 to R183). -/
inductive ControlOutcome (s : State) : State → Prop where
  | kept {t : State} (stays : ControlStays s t) (tx : TxSound s → TxSound t) : ControlOutcome s t
  | reset : ControlOutcome s s.toReset
  | loading (straps : Station) (held : s.mode = .heldInReset) (nonzero : straps ≠ 0) :
      ControlOutcome s (s.enterLoading straps).driveAttn
  | loaded (image : List Byte) (mode : s.mode = .loading) (good : imageGood s.stationNumber image = true) :
      ControlOutcome s (s.loadImage image).driveAttn
  | listening (mode : s.mode = .loading) (config : s.config.isSome = true) : ControlOutcome s s.enterListening.driveAttn
  | running (mode : s.mode = .listening) : ControlOutcome s s.enterRunning.driveAttn
  | halted {u : State} (halted : s.mode ≠ .halted) (control : u.control = s.control) (mirror : u.mirror = s.mirror)
      (tx : TxSound s → u.tx.HaltReady) (cause : HaltCause) : ControlOutcome s (u.enterHalted cause).driveAttn

namespace ControlOutcome

variable {s t : State}

theorem of_stays (control : ControlStays s t) (tx : TxStays s t) : ControlOutcome s t :=
  .kept control fun sound => sound.of_stays tx

/-- The transmitter is written alone. -/
theorem withTx {x : Transmitter} (tx : TxSound s → TxSound (s.withTx x)) : ControlOutcome s (s.withTx x) :=
  .kept (.withTx s x) tx

theorem withRx (s : State) (x : Receiver) : ControlOutcome s (s.withRx x) :=
  of_stays (.withRx s x) (.of_tx (s.withRx_mode x) (s.withRx_tx x))

theorem completeSweep (s : State) (r : Results) : ControlOutcome s (s.completeSweep r) :=
  of_stays (.completeSweep s r) (.completeSweep s r)

/-- A part that finds no error enters HALTED with the transmitter as it is. -/
theorem enterHalted (halted : s.mode ≠ .halted) (cause : HaltCause) :
    ControlOutcome s (s.enterHalted cause).driveAttn := .halted halted rfl rfl TxSound.haltReady cause

/-- A character ends, with a clash perhaps (R82 to R87). -/
theorem takeCharacter (listens : s.mode.listens = true) (b : Byte) : ControlOutcome s (s.takeCharacter b) := by
  have halted : s.mode ≠ .halted := fun e => by
    rw [e] at listens
    cases listens
  have clash (x : Receiver) : ControlOutcome s ((s.withRx x).enterHalted .clash).driveAttn :=
    .halted (u := s.withRx x) halted (s.withRx_control x) (s.withRx_mirror x) TxSound.haltReady .clash
  rcases s.takeCharacter_cases b with ⟨_, _, e⟩ | ⟨_, e⟩ | ⟨_, _, e⟩ <;> rw [e]
  · exact withRx _ _
  · rcases State.judgeFrame_cases (s.withRx (s.rx.takeByte b)) (s.rx.takeByte b).buffer with
      ⟨_, e⟩ | ⟨_, _, _, e⟩ | ⟨_, _, _, e⟩ | ⟨_, _, e⟩ <;> rw [e]
    · rw [State.withRx_withRx]
      exact withRx _ _
    · rw [State.withRx_withRx]
      exact withRx _ _
    · rw [State.withRx_withRx]
      exact clash _
    · rw [State.withRx_withRx, State.withRx_withRx]
      exact withRx _ _
  · exact withRx _ _

/-- The failure count reaches 16 (R77). -/
theorem enterMute (running : s.mode = .running) (unmuted : s.tx.state ≠ .mute) (last : s.tx.lastFailure = true) :
    ControlOutcome s s.enterMute :=
  .halted (s := s) (u := s.withTx s.tx.muted) (by rw [running]; decide) (s.withTx_control _)
    (s.withTx_mirror _) (fun sound => sound.muted unmuted last)
    .mute

end ControlOutcome

/-- A sound transmitter with a state that has a live frame has one. -/
theorem TxSound.live_isSome {s : State} (sound : TxSound s)
    (state : s.tx.state = .arbitrating ∨ s.tx.state = .sending) : s.tx.live.isSome = true :=
  sound.live.2 (.inr state)

theorem Transmitter.unmuted_of_sends {t : Transmitter} (state : t.state = .arbitrating ∨ t.state = .sending) :
    t.state ≠ .mute := by
  rcases state with state | state <;> rw [state] <;> decide

/-- An error is found only in a bit that is being sent (R58, R74, R76). -/
theorem Transmitter.state_of_bitErrorAt {t : Transmitter} {position : Nat} {samples : BitSamples}
    (error : t.bitErrorAt position samples = true) : t.state = .arbitrating ∨ t.state = .sending := by
  by_contra silent
  obtain ⟨noArbitration, noSending⟩ := not_or.1 silent
  rw [Transmitter.bitErrorAt, Transmitter.sentBit_silent noArbitration noSending] at error
  cases error

/-- Back to WAITING with the frame refreshed (R70, R74, R76). -/
theorem TxSound.returnToWaiting {s : State} (sound : TxSound s) (running : s.mode = .running)
    (state : s.tx.state = .arbitrating ∨ s.tx.state = .sending) {failures : Nat}
    (below : failures < Config.failureLimit) :
    TxSound (s.withTx { s.tx with failures := failures }).returnToWaiting :=
  sound.withLive running (x := (s.withTx { s.tx with failures := failures }).returnToWaiting.tx)
    (Option.isSome_map.trans (sound.live_isSome state)) (.inl rfl) below rfl ⟨rfl, rfl⟩

/-- QUIET has no live frame (R72). -/
theorem TxState.quiet_silent :
    ¬ (TxState.quiet = .waiting ∨ TxState.quiet = .arbitrating ∨ TxState.quiet = .sending) := by
  decide

/-- The completion of a frame, in RUNNING or in HALTED (R49, R75, R79). -/
theorem TxSound.completeFrame {s : State} (sound : TxSound s) (lf : LayerFrame) : TxSound (s.completeFrame lf) := by
  have starts (p : PointIndex) : (s.completeFrame lf).tx.startCounters.get p ≤ Config.startFrames := by
    have bound := sound.starts p
    rw [State.completeFrame_startCounters]
    split
    · exact (Nat.sub_le _ _).trans bound
    · exact bound
  have mode := s.completeFrame_mode lf
  have tx := s.completeFrame_tx lf
  constructor
  case live => rw [tx]; exact iff_of_false Bool.false_ne_true TxState.quiet_silent
  case silent =>
    rw [mode]
    intro silent
    refine ⟨State.completeFrame_next_none lf (sound.silent silent).1, .inl ?_⟩
    rw [tx]
  case mute => rw [tx]; exact iff_of_false TxState.noConfusion (by decide : 0 ≠ Config.failureLimit)
  case muteHalts => rw [tx]; exact fun mute => nomatch mute
  case failures => rw [tx]; exact Nat.zero_le _
  case starts => exact starts
  case kept => rw [mode, tx]; exact sound.kept
  case keptLive => rw [tx]; exact sound.keptLive
  case keptNext => rw [tx]; exact sound.keptNext

/-- A frame being finished in HALTED is broken off (R79). -/
theorem TxSound.dropLive {s : State} (sound : TxSound s) (halted : s.mode = .halted) (sending : s.tx.state = .sending) :
    TxSound (s.withTx s.tx.dropLive) where
  live := iff_of_false Bool.false_ne_true TxState.quiet_silent
  silent := fun silent => ⟨(sound.silent silent).1, .inl rfl⟩
  mute := iff_of_false TxState.noConfusion (Nat.ne_of_lt (sound.failures_lt (by rw [sending]; decide)))
  muteHalts := fun mute => nomatch mute
  failures := sound.failures
  starts := sound.starts
  kept := fun silent => absurd halted silent
  keptLive := sound.keptLive
  keptNext := sound.keptNext

end Sys2Proof.Machine

namespace Sys2Proof.Machine

open Sys2Proof.Claims

/-! ### Controller, mirror table and transmitter at every command (O59) -/

/-- Every command has one of the outcomes. -/
theorem exec_controlOutcome (c : Instr) {s t : State} (h : exec c s = .next t) : ControlOutcome s t := by
  have orKept {u : State} {p : Prop} [Decidable p] (taken : p → ControlOutcome s u) :
      ControlOutcome s (if p then u else s) := by
    split
    · exact taken ‹_›
    · exact .of_stays (.refl s) (.refl s)
  have same : ControlOutcome s s := .of_stays (.refl s) (.refl s)
  cases c <;> obtain rfl := Host.Outcome.next.inj h
  case resetAssertion k => exact orKept fun _ => .reset
  case resetRelease straps =>
    refine orKept fun held => ?_
    split
    · exact .enterHalted (by rw [held]; decide) _
    · exact .loading straps held ‹_›
  case configurationReadComplete levels =>
    refine orKept fun reading => ?_
    split
    · exact .loaded _ reading.1 ‹_›
    · exact .enterHalted (by rw [reading.1]; decide) _
  case loadingTimerExpiry => exact orKept fun due => .listening due.1 due.2.2
  case listeningTimerExpiry => exact orKept fun due => .running due.1
  case sweepCompletion r => exact .completeSweep s r
  case filteredLevelChange r _ _ | channelFaulted r _ _ | channelRecovered r _ _ | referenceFaulted r
      | referenceRecovered r | dwellEnd r _ | toggleHalfPeriod r _ => exact orKept fun _ => .completeSweep s r
  case reportTimerExpiry p =>
    exact orKept fun _ =>
      .of_stays (ControlStays.withTx s _).then_preempt ((TxStays.expireReport s p).trans (.preempt _))
  case statusTimerExpiry n =>
    exact orKept fun _ =>
      .of_stays (ControlStays.withTx s _).then_preempt ((TxStays.expireStatus s n).trans (.preempt _))
  case ageTimerExpiry m =>
    split
    · exact same
    · rename_i e held
      refine orKept fun _ => ?_
      split
      · exact .of_stays ⟨rfl, .set held rfl rfl MirrorEntry.passOver_timely⟩ (.setMirror s m _)
      · exact .of_stays (.expireAge held (Bool.not_eq_true _ ▸ ‹_›)) (.expireAge s m e)
  case deadlineExpiry n | holdOffExpiry n =>
    split
    · exact same
    · exact orKept fun _ => .of_stays ((ControlStays.refl s).then_applySection n _).driven
        (TxStays.applySection s n _).driven
  case nextLayerLoad =>
    refine orKept fun due => .of_stays ?_ (.loadNext due.1)
    rw [State.loadNext_eq]
    exact .withTx s _
  case liveLayerMove =>
    refine orKept fun ⟨running, _, held, quiet⟩ => .withTx fun sound => ?_
    exact sound.withLive running (x := s.tx.move) held (.inl rfl) (sound.failures_lt (by rw [quiet]; decide)) rfl
      ⟨rfl, rfl⟩
  case idleCompletion =>
    refine orKept fun _ => .kept (.of_mirror rfl rfl) fun sound => ?_
    have idle : TxSound (s.withRx s.rx.idle) := sound.of_stays (.of_tx rfl rfl)
    by_cases starts : s.mode = .running ∧ s.tx.state = .waiting
    · rw [if_pos starts.1, Transmitter.start, if_pos starts.2]
      exact idle.withLive starts.1 (sound.live.2 (.inl starts.2)) (.inr (.inl rfl))
        (sound.failures_lt (by rw [starts.2]; decide)) rfl ⟨rfl, rfl⟩
    · have same : (if s.mode = .running then s.tx.start else s.tx) = s.tx := by
        by_cases running : s.mode = .running
        · exact (if_pos running).trans (if_neg fun waiting => starts ⟨running, waiting⟩)
        · exact if_neg running
      rw [same]
      exact idle
  case arbitrationWon bits =>
    refine orKept fun ⟨running, arbitrating, _⟩ => .withTx fun sound => ?_
    exact sound.withLive running (sound.live_isSome (.inl arbitrating)) (.inr (.inr rfl))
      (sound.failures_lt (by rw [arbitrating]; decide)) rfl ⟨rfl, rfl⟩
  case lostArbitration bit samples =>
    refine orKept fun ⟨running, arbitrating, _⟩ => .withTx fun sound => ?_
    exact sound.returnToWaiting running (.inl arbitrating) (sound.failures_lt (by rw [arbitrating]; decide))
  case bitError position samples =>
    refine orKept fun error => ?_
    have sends := Transmitter.state_of_bitErrorAt error
    split
    · rename_i running
      unfold State.abortFrame
      split
      · exact .enterMute running (Transmitter.unmuted_of_sends sends) ‹_›
      · rename_i more
        exact .kept (.of_mirror rfl rfl) fun sound => sound.returnToWaiting running sends
          (failures := s.tx.failures + 1) (Nat.not_le.1 fun last => more (decide_eq_true last))
    · exact orKept fun due => .withTx fun sound => sound.dropLive due.1 due.2
  case mute position samples =>
    exact orKept fun ⟨running, error, last⟩ =>
      .enterMute running (Transmitter.unmuted_of_sends (Transmitter.state_of_bitErrorAt error)) last
  case frameCompletion samples =>
    split
    · exact same
    · exact orKept fun _ => .kept (.completeFrame s _) fun sound => sound.completeFrame _
  case framingError bit samples => split <;> exact orKept fun _ => .withRx s _
  case badLength data | receiverFrameComplete data | characterComplete data =>
    exact orKept fun due => .takeCharacter due.1 _
  case startBit dominantSamples samples => exact orKept fun _ => .withRx s _
  case countReport =>
    exact .of_stays (.endHandling s _ .handleCountReport) (.endHandling s _ fun f => .handleCountReport f s)
  case settleAnswer =>
    exact .of_stays (.endHandling s _ .handleSettleAnswer) (.endHandling s _ fun f => .handleSettleAnswer f s)
  case settleRequest =>
    exact .of_stays (.endHandling s _ fun _ f => .handleSettleRequest f s)
      (.endHandling s _ fun f => .handleSettleRequest f s)
  case restoreCommand =>
    exact .of_stays (.endHandling s _ fun _ f => .handleRestoreCommand f s)
      (.endHandling s _ fun f => .handleRestoreCommand f s)
  case sectionStatus | class7FrameHandled =>
    exact .of_stays (.endHandling s _ fun _ _ => .refl s) (.endHandling s _ fun _ => .refl s)

/-! ### The invariants and the outcomes -/

/-- A part before RUNNING takes its QUIET transmitter on into the next mode (R78, R180, R181). -/
theorem TxSound.of_resting {s t : State} (sound : TxSound s) (before : s.mode ≠ .running ∧ s.mode ≠ .halted)
    (layers : t.tx.live = s.tx.live ∧ t.tx.next = s.tx.next ∧ t.tx.keptLive = s.tx.keptLive ∧
      t.tx.keptNext = s.tx.keptNext)
    (state : t.tx.state = s.tx.state) (failures : t.tx.failures = s.tx.failures)
    (starts : ∀ p, t.tx.startCounters.get p ≤ Config.startFrames) : TxSound t := by
  obtain ⟨empty, quiet⟩ := sound.silent before.1
  obtain ⟨live, next, keptLive, keptNext⟩ := layers
  have still : s.tx.state = .quiet := quiet.resolve_right fun ⟨mode, _⟩ => before.2 mode
  constructor
  case live => rw [live, state]; exact sound.live
  case silent => exact fun _ => ⟨next.trans empty, .inl (state.trans still)⟩
  case mute => rw [state, failures]; exact sound.mute
  case muteHalts => rw [state, still]; exact fun mute => nomatch mute
  case failures => rw [failures]; exact sound.failures
  case starts => exact starts
  case kept => rw [keptLive, keptNext]; exact fun _ => sound.kept before.2
  case keptLive => rw [keptLive]; exact sound.keptLive
  case keptNext => rw [keptNext]; exact sound.keptNext

theorem State.enterRunning_tx (s : State) :
    s.enterRunning.tx = { s.tx with
      entries := s.runningEntries.entries
      nextPlace := s.runningEntries.nextPlace
      reportTimers := s.enterRunning.tx.reportTimers
      statusTimers := s.enterRunning.tx.statusTimers
      startCounters := .const 4 Config.startFrames } := by
  rw [State.enterRunning, s.runningEntries_eq.1]

/-- What the controller holds is a part of the state like any other. -/
theorem State.control_eq_iff {s t : State} : t.control = s.control ↔
    t.mode = s.mode ∧ t.cause = s.cause ∧ t.station = s.station ∧ t.config = s.config ∧
      t.cfgSelectLow = s.cfgSelectLow ∧ t.cfgClock = s.cfgClock ∧ t.loadingTimer = s.loadingTimer ∧
      t.listeningTimer = s.listeningTimer := by
  simp only [State.control, Prod.mk.injEq]

theorem ModeSound.of_control {s t : State} (sound : ModeSound s) (control : t.control = s.control) : ModeSound t := by
  obtain ⟨mode, cause, station, config, select, clock, loading, listening⟩ := State.control_eq_iff.1 control
  constructor
  case halted => rw [cause, mode]; exact sound.halted
  case loading => rw [loading, mode]; exact sound.loading
  case listening => rw [listening, mode]; exact sound.listening
  case reading => rw [select, mode, config]; exact sound.reading
  case clocked => rw [clock, select]; exact sound.clocked
  case configured => rw [mode, config]; exact sound.configured
  case forgotten => rw [mode, station, config]; exact sound.forgotten
  case stationed => rw [mode, station]; exact sound.stationed
  case numbered => rw [station]; exact sound.numbered

/-- The entry to HALTED stops the phase timers and ends a read (R176, R182). -/
theorem ModeSound.enterHalted {s u : State} (sound : ModeSound s) (working : s.mode ≠ .halted)
    (control : u.control = s.control) (cause : HaltCause) : ModeSound (u.enterHalted cause).driveAttn := by
  obtain ⟨mode, _, station, _⟩ := State.control_eq_iff.1 control
  have entered := State.enterHalted_eq (s := u) (by rw [mode]; exact working) cause
  generalize u.enterHalted cause = t at entered
  obtain ⟨tx, sections, rfl⟩ : ∃ tx sections, t = { u with
      mode := .halted, cause := some cause, cfgSelectLow := false, cfgClock := 0, loadingTimer := .stopped
      listeningTimer := .stopped, tx := tx, rx := u.rx.halt, mirror := u.mirror.map fun e => e.map MirrorEntry.halt
      sections := sections, lines := .const 8 .low } := ⟨_, _, entered⟩
  constructor
  case halted => exact iff_of_true rfl rfl
  case loading => exact iff_of_false Bool.false_ne_true Mode.noConfusion
  case listening => exact iff_of_false Bool.false_ne_true Mode.noConfusion
  case reading => exact fun low => nomatch low
  case clocked => exact ⟨Nat.zero_le _, fun _ => rfl⟩
  case configured => exact fun listens => nomatch listens
  case forgotten => exact fun held => nomatch held
  case stationed => exact fun either => by rcases either with e | e <;> cases e
  case numbered => exact fun zero => sound.numbered (station.symm.trans zero)

namespace ControlOutcome

variable {s t : State}

theorem txSound (outcome : ControlOutcome s t) (sound : TxSound s) : TxSound t := by
  cases outcome with
  | kept _ tx => exact tx sound
  | reset => exact TxSound.reset.of_stays (.of_tx rfl rfl)
  | loading straps held nonzero =>
    exact sound.of_resting (by rw [held]; decide) ⟨rfl, rfl, rfl, rfl⟩ rfl rfl sound.starts
  | loaded image mode good => exact sound.of_stays (.of_tx rfl rfl)
  | listening mode config =>
    exact sound.of_resting (by rw [mode]; decide) ⟨rfl, rfl, rfl, rfl⟩ rfl rfl sound.starts
  | running mode =>
    have tx : s.enterRunning.driveAttn.tx = _ := s.enterRunning_tx
    refine sound.of_resting (by rw [mode]; decide) ?_ ?_ ?_ fun p => ?_ <;> rw [tx]
    · exact ⟨rfl, rfl, rfl, rfl⟩
    · exact (Table.get_const _ p).le
  | halted working control mirror tx cause =>
    obtain ⟨mode, _⟩ := State.control_eq_iff.1 control
    exact (TxSound.enterHalted (tx sound) (by rw [mode]; exact working) cause).of_stays (.of_tx rfl rfl)

theorem modeSound (outcome : ControlOutcome s t) (sound : ModeSound s) : ModeSound t := by
  cases outcome with
  | kept stays _ => exact sound.of_control stays.control
  | reset => exact ModeSound.reset.of_control rfl
  | loading straps held nonzero =>
    obtain ⟨_, config⟩ := sound.forgotten held
    have waiting : ¬ s.cause.isSome = true := fun halted => nomatch held.symm.trans (sound.halted.1 halted)
    have unlistened : ¬ s.listeningTimer.running = true := fun on => nomatch held.symm.trans (sound.listening.1 on)
    constructor
    case halted => exact iff_of_false waiting Mode.noConfusion
    case loading => exact iff_of_true rfl rfl
    case listening => exact iff_of_false unlistened Mode.noConfusion
    case reading => exact fun _ => ⟨rfl, config⟩
    case clocked => exact ⟨Nat.zero_le _, fun _ => rfl⟩
    case configured => exact fun listens => nomatch listens
    case forgotten => exact fun held => nomatch held
    case stationed => exact fun _ => rfl
    case numbered => exact fun zero => nonzero (Option.some.inj zero)
  | loaded image mode good =>
    constructor
    case halted => exact sound.halted
    case loading => exact sound.loading
    case listening => exact sound.listening
    case reading => exact fun low => nomatch low
    case clocked => exact ⟨Nat.zero_le _, fun _ => rfl⟩
    case configured => exact fun _ => rfl
    case forgotten => exact fun held => nomatch mode.symm.trans held
    case stationed => exact sound.stationed
    case numbered => exact sound.numbered
  | listening mode config =>
    have waiting : ¬ s.cause.isSome = true := fun halted => nomatch mode.symm.trans (sound.halted.1 halted)
    have unread : ¬ s.cfgSelectLow = true := fun low => by
      rw [(sound.reading low).2] at config
      cases config
    constructor
    case halted => exact iff_of_false waiting Mode.noConfusion
    case loading => exact iff_of_false Bool.false_ne_true Mode.noConfusion
    case listening => exact iff_of_true rfl rfl
    case reading => exact fun low => absurd low unread
    case clocked => exact sound.clocked
    case configured => exact fun _ => config
    case forgotten => exact fun held => nomatch held
    case stationed => exact fun _ => sound.stationed (.inl mode)
    case numbered => exact sound.numbered
  | running mode =>
    have waiting : ¬ s.cause.isSome = true := fun halted => nomatch mode.symm.trans (sound.halted.1 halted)
    have unloaded : ¬ s.loadingTimer.running = true := fun on => nomatch mode.symm.trans (sound.loading.1 on)
    have listens : s.mode.listens = true := by rw [mode]; rfl
    constructor
    case halted => exact iff_of_false waiting Mode.noConfusion
    case loading => exact iff_of_false unloaded Mode.noConfusion
    case listening => exact iff_of_false Bool.false_ne_true Mode.noConfusion
    case reading => exact fun low => nomatch mode.symm.trans (sound.reading low).1
    case clocked => exact sound.clocked
    case configured => exact fun _ => sound.configured listens
    case forgotten => exact fun held => nomatch held
    case stationed => exact fun _ => sound.stationed (.inr listens)
    case numbered => exact sound.numbered
  | halted working control mirror tx cause => exact sound.enterHalted working control cause

end ControlOutcome

end Sys2Proof.Machine

namespace Sys2Proof.Machine

open Sys2Proof.Claims

/-! ### The mirror entries of an image (R94, R95, R177, R178) -/

theorem within_iff {low high v : Nat} : within low high v = true ↔ low ≤ v ∧ v ≤ high := by simp [within]

/-- A good image's mirror records lie in their ranges and are distinct (checks 4 and 8). -/
theorem imageGood_mirror {station : Station} {image : List Byte} (good : imageGood station image = true)
    (m : EntryIndex) : imageMirrorStation image m ≤ 31 ∧ imageMirrorPoint image m ≤ 3 ∧
      mirrorDistinct image station m = true := by
  simp only [imageGood, imageChecks, List.all_cons, List.all_nil, id_eq, Bool.and_eq_true, imageInRange,
    List.all_eq_true] at good
  obtain ⟨_, _, _, ⟨⟨_, ranges⟩, _⟩, _, _, _, distinct, _⟩ := good
  obtain ⟨stations, points⟩ := Bool.and_eq_true_iff.1 (ranges m (mem_allEntries m))
  exact ⟨(within_iff.1 stations).2, (within_iff.1 points).2, distinct m (mem_allEntries m)⟩

/-- Of two records that name a station no two name one point, and none names this station (check 8). -/
theorem mirrorDistinct_spec {station : Station} {image : List Byte} {m : EntryIndex}
    (distinct : mirrorDistinct image station m = true) (used : imageMirrorStation image m ≠ 0) :
    imageMirrorStation image m ≠ station.toNat ∧ ∀ k, imageMirrorStation image k = imageMirrorStation image m →
      imageMirrorPoint image k = imageMirrorPoint image m → k = m := by
  simp only [mirrorDistinct, Bool.or_eq_true, Bool.and_eq_true, beq_iff_eq, bne_iff_ne, List.all_eq_true] at distinct
  obtain ⟨foreign, others⟩ := distinct.resolve_left used
  refine ⟨foreign, fun k sameStation samePoint => ?_⟩
  rcases others k (mem_allEntries k) with (same | other) | other
  · exact same
  · exact absurd sameStation other
  · exact absurd samePoint other

theorem imageEntry_eq_some {image : List Byte} {m : EntryIndex} {e : MirrorEntry} (held : imageEntry image m = some e) :
    imageMirrorStation image m ≠ 0 ∧ e.station = BitVec.ofNat 5 (imageMirrorStation image m) ∧
      e.point = ((imageByte image (mirrorBase m + 1)).extractLsb' 0 2).toFin ∧ e.hold = .unheard ∧
      e.age.running = false ∧ e.overtaken = false := by
  unfold imageEntry at held
  obtain ⟨used, same⟩ := Option.ite_none_left_eq_some.1 held
  obtain rfl := Option.some.inj same
  exact ⟨used, rfl, rfl, rfl, rfl, rfl⟩

/-- The entry of a record in range carries the record's numbers. -/
theorem imageEntry_name {station : Station} {image : List Byte} (good : imageGood station image = true)
    {m : EntryIndex} {e : MirrorEntry} (held : imageEntry image m = some e) :
    e.station.toNat = imageMirrorStation image m ∧ e.point.val = imageMirrorPoint image m := by
  obtain ⟨stations, points, _⟩ := imageGood_mirror good m
  obtain ⟨_, same, point, _⟩ := imageEntry_eq_some held
  refine ⟨?_, ?_⟩
  · rw [same, BitVec.toNat_ofNat]
    exact Nat.mod_eq_of_lt (by omega)
  · rw [point]
    unfold imageMirrorPoint imageNat at points ⊢
    change ((imageByte image (mirrorBase m + 1)).extractLsb' 0 2).toNat = _
    rw [BitVec.extractLsb'_toNat, Nat.shiftRight_zero]
    exact Nat.mod_eq_of_lt (by omega)

/-- What a good image hands to the mirror table (R94, R178). -/
theorem imageGood_entries {station : Station} {image : List Byte} (good : imageGood station image = true) :
    EntriesDistinct (some station) (imageConfig image).mirror := by
  have record {m : EntryIndex} {e : MirrorEntry} (held : e ∈ (imageConfig image).mirror.get m) :
      imageEntry image m = some e := (Table.get_tabulate _ _).symm.trans held
  constructor
  case foreign =>
    intro m e held
    obtain ⟨used, _⟩ := imageEntry_eq_some (record held)
    have number := (imageEntry_name good (record held)).1
    refine ⟨fun zero => used ?_, fun own => ?_⟩
    · rw [← number, zero]
      rfl
    · refine (mirrorDistinct_spec (imageGood_mirror good m).2.2 used).1 ?_
      rw [← number, Option.some.inj own]
  case distinct =>
    intro m k e held f held' station point
    obtain ⟨used, _⟩ := imageEntry_eq_some (record held')
    obtain ⟨number, place⟩ := imageEntry_name good (record held)
    obtain ⟨number', place'⟩ := imageEntry_name good (record held')
    refine (mirrorDistinct_spec (imageGood_mirror good k).2.2 used).2 m ?_ ?_
    · rw [← number, ← number', station]
    · rw [← place, ← place', point]

/-! ### The mirror table (R94, R95, R99, R101 to R103) -/

theorem EntriesDistinct.of_names {station : Option Station} {before after : Table (Option MirrorEntry) 16}
    (distinct : EntriesDistinct station before)
    (names : ∀ m, ∀ e' ∈ after.get m, ∃ e ∈ before.get m, e'.name = e.name) : EntriesDistinct station after := by
  have parts {e' e : MirrorEntry} (name : e'.name = e.name) : e'.station = e.station ∧ e'.point = e.point :=
    Prod.mk.inj name
  constructor
  case foreign =>
    intro m e' held'
    obtain ⟨e, held, name⟩ := names m e' held'
    rw [(parts name).1]
    exact distinct.foreign m e held
  case distinct =>
    intro m k e' held' f' heldf' station point
    obtain ⟨e, held, name⟩ := names m e' held'
    obtain ⟨f, heldf, name'⟩ := names k f' heldf'
    rw [(parts name).1, (parts name').1] at station
    rw [(parts name).2, (parts name').2] at point
    exact distinct.distinct m k e held f heldf station point

namespace MirrorSound

variable {s t : State}

theorem timely (sound : MirrorSound s) {m : EntryIndex} {e : MirrorEntry} (held : e ∈ s.mirror.get m) :
    e.timely s.mode.listens := ⟨sound.timed m e held, sound.overtaken m e held⟩

theorem of_stays (sound : MirrorSound s) (mode : t.mode = s.mode) (station : t.station = s.station)
    (config : t.config = s.config) (stays : MirrorStays s t) : MirrorSound t := by
  have timely (m : EntryIndex) (e' : MirrorEntry) (held' : e' ∈ t.mirror.get m) : e'.timely t.mode.listens := by
    obtain ⟨e, held, _, kept⟩ := stays m e' held'
    rw [mode]
    exact kept (sound.timely held)
  constructor
  case entries =>
    rw [station]
    refine sound.entries.of_names fun m e' held' => ?_
    obtain ⟨e, held, name, _⟩ := stays m e' held'
    exact ⟨e, held, name⟩
  case timed => exact fun m e held => (timely m e held).1
  case overtaken => exact fun m e held => (timely m e held).2
  case none =>
    rw [mode]
    refine fun early m => Option.eq_none_iff_forall_ne_some.2 fun e' held' => ?_
    obtain ⟨e, held, _⟩ := stays m e' held'
    exact nomatch (sound.none early m).symm.trans held
  case handed => rw [mode, station, config]; exact sound.handed

/-- A table without entries. -/
theorem of_empty (empty : ∀ m, t.mirror.get m = .none)
    (handed : t.mode = .loading → ∀ c ∈ t.config, EntriesDistinct t.station c.mirror ∧
      ∀ m, ∀ e ∈ c.mirror.get m, e.hold = .unheard ∧ e.age.running = false ∧ e.overtaken = false) : MirrorSound t where
  entries := ⟨fun m _ held => (nomatch (empty m).symm.trans held), fun m _ _ held => nomatch (empty m).symm.trans held⟩
  timed := fun m _ held => nomatch (empty m).symm.trans held
  overtaken := fun m _ held => nomatch (empty m).symm.trans held
  none := fun _ => empty
  handed := handed

/-- A later mode takes the table on, each entry with its name (R102, R181). -/
theorem of_later {before : Table (Option MirrorEntry) 16} (entries : EntriesDistinct t.station before)
    (later : ¬ (t.mode = .heldInReset ∨ t.mode = .loading))
    (kept : ∀ m, ∀ e' ∈ t.mirror.get m, ∃ e ∈ before.get m, e'.name = e.name ∧ e'.timely t.mode.listens) :
    MirrorSound t where
  entries := entries.of_names fun m e' held' => by
    obtain ⟨e, held, name, _⟩ := kept m e' held'
    exact ⟨e, held, name⟩
  timed := fun m e' held' => by
    obtain ⟨_, _, _, timely⟩ := kept m e' held'
    exact timely.1
  overtaken := fun m e' held' => by
    obtain ⟨_, _, _, timely⟩ := kept m e' held'
    exact timely.2
  none := fun early => absurd early later
  handed := fun mode => absurd (.inr mode) later

/-- At the entry to HALTED the age timers stop where they stand (R102). -/
theorem enterHalted {u : State} (sound : MirrorSound s) (working : s.mode ≠ .halted) (control : u.control = s.control)
    (mirror : u.mirror = s.mirror) (cause : HaltCause) : MirrorSound (u.enterHalted cause).driveAttn := by
  obtain ⟨mode, _, station, _⟩ := State.control_eq_iff.1 control
  have working' : u.mode ≠ .halted := by rw [mode]; exact working
  have entered := State.enterHalted_eq working' cause
  have halted : (u.enterHalted cause).driveAttn.mode = .halted := (State.enterHalted_mode working' cause).1
  have table : (u.enterHalted cause).driveAttn.mirror = s.mirror.map fun e => e.map MirrorEntry.halt := by
    rw [State.driveAttn_mirror, entered, ← mirror]
  have stands : (u.enterHalted cause).driveAttn.station = s.station := by
    rw [State.driveAttn_station, entered, ← station]
  refine of_later (before := s.mirror) (stands ▸ sound.entries) (by rw [halted]; decide) fun m e' held' => ?_
  rw [table, Table.get_map] at held'
  obtain ⟨e, held, rfl⟩ := Option.map_eq_some_iff.1 held'
  rw [halted]
  exact ⟨e, held, rfl, MirrorEntry.halt_timely (sound.timely held)⟩

end MirrorSound

theorem ControlOutcome.mirrorSound {s t : State} (outcome : ControlOutcome s t) (controlled : ModeSound s)
    (sound : MirrorSound s) : MirrorSound t := by
  cases outcome with
  | kept stays _ =>
    obtain ⟨mode, _, station, config, _⟩ := State.control_eq_iff.1 stays.control
    exact sound.of_stays mode station config stays.mirror
  | reset => exact MirrorSound.reset.of_stays rfl rfl rfl (.of_mirror rfl)
  | loading straps held nonzero =>
    refine .of_empty (sound.none (.inl held)) fun _ c loaded => ?_
    exact nomatch (controlled.forgotten held).2.symm.trans loaded
  | loaded image mode good =>
    refine .of_empty (sound.none (.inr mode)) fun _ c loaded => ?_
    obtain rfl : imageConfig image = c := Option.some.inj loaded
    obtain ⟨own, station⟩ := Option.isSome_iff_exists.1 (controlled.stationed (.inl mode))
    have number : s.stationNumber = own := by
      rw [State.stationNumber, station]
      rfl
    refine ⟨?_, fun m e held => ?_⟩
    · change EntriesDistinct s.station _
      rw [station, ← number]
      exact imageGood_entries good
    · obtain ⟨_, _, _, fields⟩ := imageEntry_eq_some ((Table.get_tabulate _ _).symm.trans held)
      exact fields
  | listening mode config =>
    obtain ⟨c, loaded⟩ := Option.isSome_iff_exists.1 config
    obtain ⟨entries, unheard⟩ := sound.handed mode c loaded
    have table : s.enterListening.driveAttn.mirror = c.mirror := by
      change s.handedMirror = _
      rw [State.handedMirror, loaded]
    refine .of_later (before := c.mirror) entries (fun early => ?_) fun m e held => ?_
    · rcases early with e | e <;> cases e
    rw [table] at held
    obtain ⟨hold, stopped, kept⟩ := unheard m e held
    refine ⟨e, held, rfl, ?_, fun overtaken => nomatch kept.symm.trans overtaken⟩
    refine iff_of_false (by rw [stopped]; decide) fun ⟨⟨_, fresh⟩, _⟩ => nomatch hold.symm.trans fresh
  | running mode =>
    refine .of_later (before := s.mirror) sound.entries (fun early => ?_) fun m e held => ⟨e, held, rfl, ?_⟩
    · rcases early with e | e <;> cases e
    have timely := sound.timely (m := m) held
    rw [mode] at timely
    exact timely
  | halted working control mirror tx cause => exact sound.enterHalted working control mirror cause

/-! ### A step (log 1) -/

theorem TxStays.idleStep (s : State) : TxStays s s.idleStep := by
  unfold State.idleStep
  split
  · exact of_tx rfl rfl
  · exact ⟨rfl, ⟨rfl, rfl, rfl, rfl, fun _ => rfl⟩, ⟨rfl, rfl⟩, fun _ empty => empty⟩

/-- A microsecond advances a running phase timer and the clock of a read (R176, R179, R180). -/
theorem ModeSound.tick {s : State} (sound : ModeSound s) : ModeSound s.tick := by
  have clock : s.cfgTick ≤ Config.readPeriods ∧ (s.cfgSelectLow = false → s.cfgTick = 0) := by
    obtain ⟨bound, rests⟩ := sound.clocked
    unfold State.cfgTick
    split
    · rename_i low
      exact ⟨min_le_right _ _, fun high => nomatch low.symm.trans high⟩
    · exact ⟨bound, rests⟩
  constructor
  case halted => exact sound.halted
  case loading => exact (Bool.eq_iff_iff.1 (Timer.tick_running _ _)).trans sound.loading
  case listening => exact (Bool.eq_iff_iff.1 (Timer.tick_running _ _)).trans sound.listening
  case reading => exact sound.reading
  case clocked => exact clock
  case configured => exact sound.configured
  case forgotten => exact sound.forgotten
  case stationed => exact sound.stationed
  case numbered => exact sound.numbered

theorem ModeSound.idleStep {s : State} (sound : ModeSound s) : ModeSound s.idleStep := by
  unfold State.idleStep
  split
  · exact sound.of_control rfl
  · exact sound.tick

theorem MirrorStays.tick (s : State) : MirrorStays s s.tick := by
  intro m e' held'
  obtain ⟨e, held, rfl⟩ := Option.map_eq_some_iff.1 ((Table.get_map _ _ _).symm.trans held')
  exact ⟨e, held, rfl, MirrorEntry.tick_timely⟩

theorem MirrorSound.idleStep {s : State} (sound : MirrorSound s) : MirrorSound s.idleStep := by
  unfold State.idleStep
  split
  · exact sound.of_stays rfl rfl rfl (.of_mirror rfl)
  · exact sound.of_stays rfl rfl rfl (.tick s)

/-- Settles O59: by the outcome of the command, or of a step on an empty queue. -/
theorem controlAndMirrorStaySound : Obligations.ControlAndMirrorStaySound := by
  intro s t h
  unfold step at h
  split at h
  · obtain rfl := Host.Outcome.next.inj h
    exact ⟨fun sound => sound.of_stays (.idleStep s), fun sound => sound.idleStep, fun _ sound => sound.idleStep⟩
  · rename_i c queue _
    have outcome := exec_controlOutcome c h
    exact ⟨fun sound => outcome.txSound (sound.of_stays (.of_tx rfl rfl)),
      fun sound => outcome.modeSound (sound.of_control rfl),
      fun controlled sound => outcome.mirrorSound (controlled.of_control rfl)
        (sound.of_stays rfl rfl rfl (.of_mirror rfl))⟩

end Sys2Proof.Machine

namespace Sys2Proof.Machine

open Sys2Proof.Claims

/-! ## Proofs: the mirror table and what is presented to it -/

/-! ### A notification at every slot (R100, R108) -/

/-- Slots that are notified leave a slot that is not among them alone (R108). -/
theorem foldl_reachSection_other {l : List Slot} {n : Slot} (other : n ∉ l) (s : State)
    (notice : Option DisturbanceCause) (src : TermSource) :
    (l.foldl (fun t k => t.reachSection k notice src) s).sections.get n = s.sections.get n ∧
      (l.foldl (fun t k => t.reachSection k notice src) s).lines.get n = s.lines.get n :=
  List.foldlRecOn (motive := fun t : State => t.sections.get n = s.sections.get n ∧ t.lines.get n = s.lines.get n) l _
    ⟨rfl, rfl⟩ fun t kept k mem => by
      have apart : n ≠ k := fun same => other (same ▸ mem)
      exact ⟨(t.applySection_get_other _ apart).trans kept.1, (t.applySection_line_other _ apart).trans kept.2⟩

/-- A notification is at each slot one evaluation, on the records and the mirror table as they stand (R100, R110). -/
theorem State.notifySections_slot (s : State) (notice : Option DisturbanceCause) (m : EntryIndex) (n : Slot) :
    ∃ t : State, t.sections.get n = s.sections.get n ∧ t.lines.get n = s.lines.get n ∧ t.mode = s.mode ∧
      t.evaluateSection = s.evaluateSection ∧
      (s.notifySections notice m).sections.get n = (t.reachSection n notice (.mirror m)).sections.get n ∧
      (s.notifySections notice m).lines.get n = (t.reachSection n notice (.mirror m)).lines.get n := by
  have distinct : allSlots.Nodup := by decide
  obtain ⟨before, after, slots⟩ := List.append_of_mem (mem_allSlots n)
  rw [slots] at distinct
  obtain ⟨apart, _⟩ := List.nodup_cons.1 (List.nodup_middle.1 distinct)
  obtain ⟨notBefore, notAfter⟩ := not_or.1 (List.mem_append.not.1 apart)
  have parts := foldl_sectionParts _ (fun t k => t.reachSection_eq k notice (.mirror m)) before s
  obtain ⟨slot, line⟩ := foldl_reachSection_other notBefore s notice (.mirror m)
  unfold State.notifySections
  rw [slots, List.foldl_append, List.foldl_cons]
  generalize before.foldl (fun t k => t.reachSection k notice (.mirror m)) s = t at parts slot line
  obtain ⟨slot', line'⟩ := foldl_reachSection_other notAfter (t.reachSection n notice (.mirror m)) notice (.mirror m)
  refine ⟨t, slot, line, ?_, ?_, slot', line'⟩
  · rw [parts]
    rfl
  · refine State.evaluateSection_congr ?_ ?_ <;> rw [parts] <;> rfl

/-- The section of a slot after a notification (R100, R108). -/
theorem State.notifySections_get (s : State) (notice : Option DisturbanceCause) (m : EntryIndex) (n : Slot) :
    (s.notifySections notice m).sections.get n = (s.sections.get n).map fun sec =>
      if sec.uses (.mirror m) then s.evaluateSection notice (.mirror m) sec else sec := by
  obtain ⟨t, slot, _, _, evaluates, reached, _⟩ := s.notifySections_slot notice m n
  rw [reached, State.reachSection, State.applySection_get_same, slot, evaluates]

/-- The line of a slot after a notification that reaches its section (R100, R128, R166). -/
theorem State.notifySections_line {s : State} {n : Slot} {sec : Section} (slot : s.sections.get n = some sec)
    {m : EntryIndex} (uses : sec.uses (.mirror m) = true) (notice : Option DisturbanceCause) :
    (s.notifySections notice m).lines.get n =
      if sectionChanged sec (s.evaluateSection notice (.mirror m) sec) then
        if s.mode = .running then (s.lines.get n).drive (s.evaluateSection notice (.mirror m) sec).state else .low
      else s.lines.get n := by
  obtain ⟨t, slot', line, mode, evaluates, _, reached⟩ := s.notifySections_slot notice m n
  rw [reached, State.reachSection, State.applySection_lines, slot', slot, evaluates, mode, line]
  dsimp only
  rw [if_pos uses, apply_ite (Table.get · n), Table.get_set_same, line]

/-- A disturbing notification, by the section's state alone (R109, R115, R120). -/
theorem State.evaluateSection_disturbing {s : State} {src : TermSource} {v : SourceView} (view : s.source src = some v)
    (cause : DisturbanceCause) (sec : Section) :
    s.evaluateSection (some cause) src sec = disturbedBy cause src v sec := by
  have event : sec.takeEvent (some cause) src v = disturbedBy cause src v sec := by
    unfold Section.takeEvent disturbedBy
    rcases sec.takeCounts_cases (some cause) src v with ⟨state, e⟩ | ⟨state, _, same, e⟩ | ⟨_, none, _⟩ | ⟨_, none, _⟩
    · rw [e, if_pos state]
      simp only [Section.stateOutcome, state, followed]
      rfl
    · obtain rfl := Option.some.inj same
      rw [e, if_neg state, Section.disturb, if_neg state]
      rfl
    · cases none
    · cases none
  have state : (disturbedBy cause src v sec).state = .disturbed := by
    unfold disturbedBy
    split
    · assumption
    · rfl
  unfold State.evaluateSection
  rw [view]
  dsimp only
  rw [event, s.settleTest_of_state (.inl state)]

/-- The sections after a disturbing notification (R100, R115). -/
theorem State.notifySections_disturbs {s : State} {m : EntryIndex} {v : SourceView}
    (view : s.source (.mirror m) = some v) (cause : DisturbanceCause) (n : Slot) :
    (s.notifySections (some cause) m).sections.get n = (s.sections.get n).map fun sec =>
      if sec.uses (.mirror m) then disturbedBy cause (.mirror m) v sec else sec := by
  simp only [State.notifySections_get, State.evaluateSection_disturbing view]

/-- A section that is disturbed has its line low (R166). -/
theorem State.notifySections_low {s : State} {m : EntryIndex} {v : SourceView}
    (view : s.source (.mirror m) = some v) (cause : DisturbanceCause) {n : Slot} {sec : Section}
    (slot : s.sections.get n = some sec) (uses : sec.uses (.mirror m) = true) (undisturbed : sec.state ≠ .disturbed) :
    (s.notifySections (some cause) m).lines.get n = .low := by
  have becomes : (disturbedBy cause (.mirror m) v sec).state = .disturbed := by rw [disturbedBy, if_neg undisturbed]
  rw [State.notifySections_line slot uses, State.evaluateSection_disturbing view, becomes,
    if_pos (by simp [sectionChanged, becomes, undisturbed])]
  split <;> rfl

/-! ### A status made due by a notification (R66, R169) -/

theorem statusTaken_of_takenUp {t : State} {n : Slot} (taken : t.tx.takenUp (.status n)) : statusTaken t n :=
  taken.imp id fun ⟨lf, ⟨kind, cls⟩, place⟩ => ⟨lf, kind, cls, place⟩

theorem State.statusFollows.of_same {s t : State} {n : Slot} (same : t.sections.get n = s.sections.get n) :
    s.statusFollows n t := by
  unfold State.statusFollows
  rw [same]
  exact fun moved => absurd moved (sectionMoved_irrefl _)

theorem State.statusFollows.notifySections {s t : State} {n : Slot} (follows : s.statusFollows n t)
    (kept : PendingKept t) (running : t.mode = .running) (notice : Option DisturbanceCause) (m : EntryIndex) :
    PendingKept (t.notifySections notice m) ∧ s.statusFollows n (t.notifySections notice m) := by
  unfold State.notifySections
  have all := List.foldlRecOn
    (motive := fun u : State => PendingKept u ∧ u.mode = .running ∧ s.statusFollows n u) allSlots
    (fun u k => u.reachSection k notice (.mirror m)) ⟨kept, running, follows⟩ fun u ⟨kept, running, follows⟩ k _ =>
      ⟨PendingFollow.applySection_running kept running k _, (u.reachSection_mode k notice _).trans running,
        follows.applySection kept running k _⟩
  exact ⟨all.1, all.2.2⟩

/-- A status that follows its section is held once the event has ended (R67, R71, R169). -/
theorem State.statusFollows.statusTaken {s t : State} {n : Slot} (follows : s.statusFollows n t)
    (kept : PendingKept t) (moved : sectionMoved (s.sections.get n) (t.sections.get n)) :
    statusTaken t.preempt.driveAttn n := by
  refine statusTaken_of_takenUp ((follows moved).preempt trivial kept ?_)
  obtain ⟨_, _, _, slot, _⟩ := moved
  simp [State.concernsInUse, slot]

/-- What a notification writes, with the end of its event (R100). -/
theorem State.notifySections_driven_eq (s : State) (notice : Option DisturbanceCause) (m : EntryIndex) :
    (s.notifySections notice m).preempt.driveAttn = { s with
      sections := (s.notifySections notice m).preempt.driveAttn.sections
      tx := (s.notifySections notice m).preempt.driveAttn.tx
      lines := (s.notifySections notice m).preempt.driveAttn.lines
      attn0 := (s.notifySections notice m).preempt.driveAttn.attn0
      attn1 := (s.notifySections notice m).preempt.driveAttn.attn1 } := by
  have parts := s.notifySections_eq notice m
  generalize s.notifySections notice m = u at parts
  obtain ⟨w, rfl⟩ : ∃ w, u = s.withSectionParts w := ⟨u, parts⟩
  have writes := (s.withSectionParts w).preempt_eq
  generalize (s.withSectionParts w).preempt = t at writes
  obtain ⟨x, rfl⟩ : ∃ x, t = (s.withSectionParts w).withTx x := ⟨_, writes⟩
  rfl

/-! ### The entry of a frame's point (R90, R94, R95) -/

theorem State.entryFor_of_names {s : State} {m : EntryIndex} {e : MirrorEntry} {source : Station} {p : PointIndex}
    (named : names s m e source p) : s.entryFor source p = some m := by
  obtain ⟨slot, station, point, only⟩ := named
  cases found : s.entryFor source p with
  | none => exact absurd ⟨station, point⟩ (State.entryFor_none found m e slot)
  | some k =>
    obtain ⟨f, slot', station', point'⟩ := State.entryFor_spec found
    rw [only k f slot' station' point']

theorem accepted_eq (e : MirrorEntry) (c : PointContent) : accepted e c = e.accept c := rfl

/-- Counts presented to an entry that is not FRESH rebase it, and no section hears of it (R95). -/
theorem State.present_of_unfresh {s : State} {m : EntryIndex} {e : MirrorEntry} {source : Station} {c : PointContent}
    (named : names s m e source c.point) (unfresh : ∀ v, e.hold ≠ .fresh v) :
    s.present source c = s.setMirror m (accepted e c) := by
  unfold State.present
  rw [State.entryFor_of_names named]
  rcases s.presentAt_cases m c with ⟨none, _⟩ | ⟨f, slot, ⟨_, e'⟩ | ⟨v, fresh, _⟩⟩
  · exact nomatch none.symm.trans named.1
  · obtain rfl := Option.some.inj (slot.symm.trans named.1)
    exact e'
  · obtain rfl := Option.some.inj (slot.symm.trans named.1)
    exact absurd fresh (unfresh v)

/-- A FRESH entry notifies its sections by what it makes of the counts (R96 to R98, R100). -/
theorem State.present_of_fresh {s : State} {m : EntryIndex} {e : MirrorEntry} {source : Station} {c : PointContent}
    (named : names s m e source c.point) {v : MirrorView} (fresh : e.hold = .fresh v) :
    s.present source c = (s.setMirror m (accepted e c)).notifySections (v.judge c) m := by
  unfold State.present
  rw [State.entryFor_of_names named]
  rcases s.presentAt_cases m c with ⟨none, _⟩ | ⟨f, slot, ⟨unfresh, _⟩ | ⟨w, fresh', e'⟩⟩
  · exact nomatch none.symm.trans named.1
  · obtain rfl := Option.some.inj (slot.symm.trans named.1)
    exact absurd fresh (unfresh v)
  · obtain rfl := Option.some.inj (slot.symm.trans named.1)
    rw [fresh] at fresh'
    cases fresh'
    exact e'

/-- Whatever the entry was, it takes the frame (R94, R95). -/
theorem State.present_mirror_of_names {s : State} {m : EntryIndex} {e : MirrorEntry} {source : Station} {c : PointContent}
    (named : names s m e source c.point) : (s.present source c).mirror = s.mirror.set m (some (accepted e c)) := by
  by_cases fresh : ∃ v, e.hold = .fresh v
  · obtain ⟨v, fresh⟩ := fresh
    rw [State.present_of_fresh named fresh, State.notifySections_mirror, State.setMirror_mirror]
  · rw [State.present_of_unfresh named fun v same => fresh ⟨v, same⟩, State.setMirror_mirror]

theorem State.source_of_fresh {s : State} {m : EntryIndex} {e : MirrorEntry} {v : MirrorView}
    (slot : s.mirror.get m = some e) (fresh : e.hold = .fresh v) : s.source (.mirror m) = some (v.source true) := by
  simp only [State.source, slot, fresh]

theorem State.source_of_stale {s : State} {m : EntryIndex} {e : MirrorEntry} {v : MirrorView}
    (slot : s.mirror.get m = some e) (stale : e.hold = .stale v) : s.source (.mirror m) = some (v.source false) := by
  simp only [State.source, slot, stale]

/-! ### What a FRESH entry makes of a frame (R96 to R98) -/

theorem deltaOf_eq (now before : Count) : deltaOf now before = (countDelta now before : Int) := by
  have bound := now.isLt
  have bound' := before.isLt
  unfold deltaOf countDelta
  rw [BitVec.toNat_sub]
  omega

section Judge

variable {v : MirrorView} {c : PointContent}

theorem MirrorView.judge_restart (start : c.start = true) (clear : v.start = false) : v.judge c = some .restart := by
  simp [MirrorView.judge, start, clear]

theorem MirrorView.judge_jump (noRestart : ¬ (c.start = true ∧ v.start = false))
    (far : 64 < deltaOf c.nAB v.nAB ∨ 64 < deltaOf c.nBA v.nBA) : v.judge c = some .jump := by
  rw [deltaOf_eq, deltaOf_eq] at far
  have jumps : Config.jumpLimit < countDelta c.nAB v.nAB ∨ Config.jumpLimit < countDelta c.nBA v.nBA := by
    unfold Config.jumpLimit
    omega
  unfold MirrorView.judge
  rw [if_neg (by simpa using noRestart), if_pos jumps]

theorem MirrorView.judge_update (noRestart : ¬ (c.start = true ∧ v.start = false))
    (near : deltaOf c.nAB v.nAB ≤ 64) (near' : deltaOf c.nBA v.nBA ≤ 64) : v.judge c = none := by
  rw [deltaOf_eq] at near near'
  have noJump : ¬ (Config.jumpLimit < countDelta c.nAB v.nAB ∨ Config.jumpLimit < countDelta c.nBA v.nBA) := by
    unfold Config.jumpLimit
    omega
  unfold MirrorView.judge
  rw [if_neg (by simpa using noRestart), if_neg noJump]

end Judge

/-! ### A COUNT REPORT handled (R90) -/

/-- The end of a handling: the handler is free, and preemption and the ATTN lines follow (R71, R87, R172). -/
def State.handled (s : State) : State := s.finishHandling.preempt.driveAttn

/-- The end of a handling writes the receiver, the transmitter and the ATTN lines. -/
theorem State.handled_eq (s : State) : s.handled = { s with
    rx := handlerFreed s.rx, tx := s.handled.tx, attn0 := s.handled.attn0, attn1 := s.handled.attn1 } := by
  have writes := s.finishHandling.preempt_eq
  unfold State.handled
  generalize s.finishHandling.preempt = t at writes
  obtain ⟨x, rfl⟩ : ∃ x, t = s.finishHandling.withTx x := ⟨_, writes⟩
  rw [State.finishHandling_eq]
  rfl

@[simp] theorem State.handled_rx (s : State) : s.handled.rx = handlerFreed s.rx := by rw [State.handled_eq]
@[simp] theorem State.handled_mirror (s : State) : s.handled.mirror = s.mirror := by rw [State.handled_eq]
@[simp] theorem State.handled_sections (s : State) : s.handled.sections = s.sections := by rw [State.handled_eq]
@[simp] theorem State.handled_lines (s : State) : s.handled.lines = s.lines := by rw [State.handled_eq]
@[simp] theorem State.handled_mode (s : State) : s.handled.mode = s.mode := by rw [State.handled_eq]

/-- A COUNT REPORT is presented to the mirror table, and its handling ends (R87, R90). -/
theorem exec_countReport {s : State} {bytes : List Byte} {source : Station} {c : PointContent}
    (listens : s.mode.listens = true) (handling : s.rx.handling = some bytes)
    (read : parseFrame bytes = some (.countReport source c)) :
    exec .countReport s = .next (s.present source c).handled := by
  have cls : classOf bytes = 3 ∨ classOf bytes = 5 := ofClass_of_parseFrame read
  refine congrArg Host.Outcome.next (State.endHandling_valid listens handling ?_ read)
  rcases cls with cls | cls <;> (rw [cls]; rfl)

/-- What the handling of a frame that is presented to the mirror table writes (R87, R90, R100). -/
theorem State.present_handled_eq (s : State) (source : Station) (c : PointContent) :
    (s.present source c).handled = { s with
      rx := handlerFreed s.rx
      mirror := (s.present source c).mirror
      sections := (s.present source c).sections
      tx := (s.present source c).handled.tx
      lines := (s.present source c).lines
      attn0 := (s.present source c).handled.attn0
      attn1 := (s.present source c).handled.attn1 } := by
  have parts := s.present_eq source c
  have ends := (s.present source c).handled_eq
  generalize s.present source c = u at parts ends
  obtain ⟨w, rfl⟩ : ∃ w : State, u = { s.withSectionParts w with mirror := w.mirror } := ⟨u, parts⟩
  exact ends

/-- The state in which an entry has taken a frame, before its sections hear of it (R95). -/
def State.rebasedAt (s : State) (m : EntryIndex) (e : MirrorEntry) (c : PointContent) : State :=
  s.setMirror m (accepted e c)

theorem State.rebasedAt_source (s : State) (m : EntryIndex) (e : MirrorEntry) (c : PointContent) :
    (s.rebasedAt m e c).source (.mirror m) = some (shown c) :=
  State.source_of_fresh (v := c.view) (Table.get_set_same _ _ _) rfl

/-- The handler, freed, in a state that is otherwise sound. -/
theorem PendingKept.finishHandling {s : State} (kept : PendingKept s) : PendingKept s.finishHandling :=
  SamePending.kept (s := s) (.of_tx rfl rfl rfl rfl) kept

/-- The status of a slot follows what presenting a frame does (R100, R169). -/
theorem State.statusFollows_present {s : State} (kept : PendingKept s) (running : s.mode = .running)
    (source : Station) (c : PointContent) (n : Slot) :
    PendingKept (s.present source c) ∧ s.statusFollows n (s.present source c) := by
  unfold State.present
  split
  · exact ⟨kept, .of_same rfl⟩
  · rename_i m _
    have taken (e : MirrorEntry) : PendingKept (s.setMirror m e) :=
      SamePending.kept (s := s) (.of_tx rfl rfl rfl rfl) kept
    rcases s.presentAt_cases m c with ⟨_, e⟩ | ⟨held, _, ⟨_, e⟩ | ⟨v, _, e⟩⟩ <;> rw [e]
    · exact ⟨kept, .of_same rfl⟩
    · exact ⟨taken _, .of_same rfl⟩
    · have start : s.statusFollows n (s.setMirror m (held.accept c)) := .of_same rfl
      exact start.notifySections (taken _) running _ m

/-- A status that follows its section is held once the handling has ended (R67, R71, R87, R169). -/
theorem State.statusFollows.statusTaken_handled {s t : State} {n : Slot} (follows : s.statusFollows n t)
    (kept : PendingKept t) (moved : sectionMoved (s.sections.get n) (t.handled.sections.get n)) :
    Claims.statusTaken t.handled n := by
  rw [State.handled_sections] at moved
  exact State.statusFollows.statusTaken (t := t.finishHandling) follows kept.finishHandling moved

/-- Settles O38: no entry, an entry rebased, and the three notifications of a FRESH one. -/
theorem countReportCompletes : Obligations.CountReportCompletes := by
  intro s bytes source c listens handling read pending attn
  have done := exec_countReport listens handling read
  refine ⟨fun unnamed => ?_, fun m e named => ⟨_, done, ?_, fun unfresh => ?_, fun running n moved => ?_,
    fun v fresh => ?_⟩⟩
  · have absent : s.present source c = s := by
      unfold State.present
      cases found : s.entryFor source c.point with
      | none => rfl
      | some m =>
        obtain ⟨e, slot, isNamed⟩ := State.entryFor_spec found
        exact absurd isNamed (unnamed m e slot)
    rw [done, absent]
    exact congrArg Host.Outcome.next (State.finishHandling_settles pending attn)
  · have ends := s.present_handled_eq source c
    rw [State.present_mirror_of_names named] at ends
    rwa [State.handled_sections, State.handled_lines]
  · have lowest : nextIsLowest (s.setMirror m (accepted e c)).finishHandling.tx := pending.lowest
    rw [State.present_of_unfresh named unfresh, State.handled, State.preempt_of_lowest lowest]
    exact ⟨rfl, rfl, rfl⟩
  · obtain ⟨kept, follows⟩ := State.statusFollows_present pending.kept running source c n
    exact follows.statusTaken_handled kept moved
  · have notified : s.present source c = (s.rebasedAt m e c).notifySections (v.judge c) m :=
      State.present_of_fresh named fresh
    have disturbs := State.notifySections_disturbs (s.rebasedAt_source m e c)
    rw [State.handled_sections, notified]
    refine ⟨fun start clear => ?_, fun noRestart far => ?_, fun noRestart near near' => ?_⟩
    · rw [MirrorView.judge_restart start clear]
      exact disturbs .restart
    · rw [MirrorView.judge_jump noRestart far]
      exact disturbs .jump
    · rw [MirrorView.judge_update noRestart near near']
      exact (s.rebasedAt m e c).notifySections_get none m

/-! ### The age timer (R99) -/

theorem exec_ageTimerExpiry {s : State} {m : EntryIndex} {e : MirrorEntry} (listens : s.mode.listens = true)
    (slot : s.mirror.get m = some e) (running : e.age.running = true) :
    exec (.ageTimerExpiry m) s = .next (if e.overtaken then s.setMirror m e.passOver else s.expireAge m e) := by
  change Host.Outcome.next _ = _
  rw [slot]
  exact congrArg Host.Outcome.next (if_pos ⟨listens, running⟩)

/-- The state in which an entry has become STALE, before its sections hear of it (R99). -/
def State.aged (s : State) (m : EntryIndex) (e : MirrorEntry) (v : MirrorView) : State :=
  s.setMirror m { e with hold := .stale v, age := .stopped }

theorem State.expireAge_eq (s : State) (m : EntryIndex) {e : MirrorEntry} {v : MirrorView} (fresh : e.hold = .fresh v) :
    s.expireAge m e = ((s.aged m e v).notifySections (some .stale) m).preempt.driveAttn := by
  simp only [State.expireAge, MirrorEntry.expire, fresh, State.aged]

theorem State.aged_source (s : State) (m : EntryIndex) (e : MirrorEntry) (v : MirrorView) :
    (s.aged m e v).source (.mirror m) = some (v.source false) :=
  State.source_of_stale (Table.get_set_same _ _ _) rfl

/-- A frame that finds the age timer of its FRESH entry run out is taken, and the expiry passes (R99, log 34). -/
theorem State.present_overtakes {s : State} {m : EntryIndex} {e : MirrorEntry} {source : Station} {c : PointContent}
    (named : names s m e source c.point) (running : e.age.running = true) (elapsed : e.age.elapsed = 800000) :
    (s.present source c).mirror.get m = some { accepted e c with overtaken := true } := by
  have overtakes : (e.overtaken || e.expiryDue) = true := by
    simp [MirrorEntry.expiryDue, running, elapsed, Config.ageTime]
  rw [State.present_mirror_of_names named, Table.get_set_same, ← overtakes]
  rfl

/-- Settles O44: an expiry that a frame of its instant has overtaken passes, and any other is a notification. -/
theorem ageTimerExpiryCompletes : Obligations.AgeTimerExpiryCompletes := by
  refine ⟨fun s t m e v bytes source c listens named fresh running elapsed handling read done => ?_,
    fun s m e v listens slot fresh running onTime => ?_⟩
  · obtain rfl := Host.Outcome.next.inj ((exec_countReport listens handling read).symm.trans done)
    have taken : (s.present source c).handled.mirror.get m = some { accepted e c with overtaken := true } := by
      rw [State.handled_mirror]
      exact State.present_overtakes named running elapsed
    refine ⟨_, taken, rfl, ?_⟩
    rw [exec_ageTimerExpiry (by rwa [State.handled_mode, State.present_mode]) taken rfl]
    rfl
  · have view := s.aged_source m e v
    have disturbs := State.notifySections_disturbs view .stale
    have taken : exec (.ageTimerExpiry m) s = .next (s.expireAge m e) := by
      rw [exec_ageTimerExpiry listens slot running, onTime]
      rfl
    rw [s.expireAge_eq m fresh] at taken
    refine ⟨_, taken, ?_, fun n => ?_, fun n sec slot uses undisturbed => ⟨?_, fun running pending => ?_⟩⟩
    · exact (s.aged m e v).notifySections_driven_eq (some .stale) m
    · rw [State.driveAttn_sections, State.preempt_sections]
      exact disturbs n
    · rw [State.driveAttn_lines, State.preempt_lines]
      exact State.notifySections_low view .stale slot uses undisturbed
    · have aged : PendingKept (s.aged m e v) := SamePending.kept (s := s) (.of_tx rfl rfl rfl rfl) pending.kept
      have start : s.statusFollows n (s.aged m e v) := .of_same rfl
      obtain ⟨kept, follows⟩ := start.notifySections aged running (some .stale) m
      have after := disturbs n
      rw [show (s.aged m e v).sections.get n = some sec from slot, Option.map_some, if_pos uses, disturbedBy,
        if_neg undisturbed] at after
      exact follows.statusTaken kept ⟨sec, _, slot, after, .inl undisturbed⟩

end Sys2Proof.Machine

namespace Sys2Proof.Machine

open Sys2Proof.Claims

/-! ## Proofs: the outcomes of a complete frame -/

/-! ### Answers at the entry to HALTED in every mode (R136, R182) -/

/-- The answers that the two layers hold are the same (R136). -/
def Transmitter.sameAnswers (a b : Transmitter) : Prop :=
  heldAnswer b.next = heldAnswer a.next ∧ heldAnswer b.live = heldAnswer a.live

/-- A refresh that concerns no answer leaves the answer of a layer as it is (R66, R70). -/
theorem State.refreshLayer_heldAnswer (s : State) {concerns : EntryKind → Bool}
    (others : ∀ kind, kind.isAnswer = true → concerns kind = false) (newClass : EntryKind → Nat → Nat)
    (layer : Option LayerFrame) : heldAnswer (s.refreshLayer concerns newClass layer) = heldAnswer layer := by
  cases layer with
  | none => rfl
  | some lf =>
    unfold State.refreshLayer
    rw [Option.map_some]
    cases concerned : concerns lf.entry.kind with
    | false => rw [if_neg Bool.false_ne_true]
    | true =>
      have noAnswer : lf.entry.kind.isAnswer = false := by
        by_contra answer
        exact nomatch concerned.symm.trans (others _ (Bool.not_eq_false _ ▸ answer))
      simp [heldAnswer, Option.filter_some, noAnswer]

theorem Transmitter.hold_layers (t : Transmitter) (which : EntryKind → Bool) (kind : EntryKind)
    (changeClass periodicClass : Nat) (cause : DueCause) :
    (t.hold which kind changeClass periodicClass cause).next = t.next ∧
      (t.hold which kind changeClass periodicClass cause).live = t.live := by
  unfold Transmitter.hold
  split
  · cases cause <;> exact ⟨rfl, rfl⟩
  · split
    · exact ⟨rfl, rfl⟩
    · cases cause <;> exact ⟨rfl, rfl⟩

theorem Transmitter.sameAnswers.sectionChangeDue (s : State) (n : Slot) :
    s.tx.sameAnswers (s.sectionChangeDue n).tx := by
  have others (kind : EntryKind) (answer : kind.isAnswer = true) : kind.isStatus n = false := by
    cases kind with
    | answer requester m p tag => rfl
    | report p | status m | request m id tag => cases answer
  obtain ⟨next, live⟩ := s.tx.hold_layers (EntryKind.isStatus n) (.status n) 4 6 .change
  let due := s.withTx (s.tx.statusDue n .change)
  have refreshed (layer : Option LayerFrame) :=
    due.refreshLayer_heldAnswer others statusChangeClass layer
  unfold State.sectionChangeDue
  split
  · refine ⟨(refreshed due.tx.next).trans (congrArg heldAnswer next), ?_⟩
    change heldAnswer (if due.tx.state = .waiting then due.refreshLayer _ _ due.tx.live else due.tx.live) = _
    rw [apply_ite heldAnswer, refreshed, ite_self]
    exact congrArg heldAnswer live
  · exact ⟨rfl, rfl⟩

theorem Transmitter.sameAnswers.haltSection (s : State) (n : Slot) : s.tx.sameAnswers (s.haltSection n).tx := by
  unfold State.haltSection
  split
  · exact ⟨rfl, rfl⟩
  · dsimp only
    split
    · exact sectionChangeDue (s.setSection n _) n
    · exact ⟨rfl, rfl⟩

/-- The answers in the layers at the entry to HALTED stay there, but for one that is SENDING (R136, log 32). -/
theorem State.enterHalted_answers {s : State} (halted : s.mode ≠ .halted) (cause : HaltCause) :
    (s.enterHalted cause).tx.keptNext = heldAnswer s.tx.next ∧
      (s.tx.state = .sending → (s.enterHalted cause).tx.keptLive = none) ∧
      (s.tx.state ≠ .sending → (s.enterHalted cause).tx.keptLive = heldAnswer s.tx.live) := by
  have e : s.enterHalted cause = (allSlots.foldl State.haltSection s).stopBlocks cause := if_neg halted
  have tx : (s.enterHalted cause).tx = (allSlots.foldl State.haltSection s).tx.halt := by rw [e]; rfl
  have fold := List.foldlRecOn
    (motive := fun t : State => TxKept s.tx t.tx ∧ s.tx.sameAnswers t.tx) allSlots State.haltSection
    ⟨.refl _, rfl, rfl⟩ fun t ⟨kept, next, live⟩ n _ => by
      obtain ⟨next', live'⟩ := Transmitter.sameAnswers.haltSection t n
      exact ⟨kept.trans (.haltSection t n), next'.trans next, live'.trans live⟩
  rw [tx]
  generalize (allSlots.foldl State.haltSection s).tx = x at fold
  obtain ⟨kept, next, live⟩ := fold
  obtain ⟨sending, stopped⟩ := x.halt_live
  rw [kept.state] at sending stopped
  exact ⟨next, fun state => (sending state).2, fun state => (stopped state).2.trans live⟩

/-- The entry to HALTED does all that R182 lists, RUNNING included. -/
theorem haltedFrom_enterHalted_inAnyMode {s : State} (halted : s.mode ≠ .halted) {cause : HaltCause}
    (notMute : cause ≠ .mute) : haltedFrom s (s.enterHalted cause).driveAttn := by
  obtain ⟨x, tx, kept, stays⟩ := State.enterHalted_tx_stays halted cause
  obtain ⟨keptNext, keptSending, keptStopped⟩ := State.enterHalted_answers halted cause
  have sections := State.enterHalted_get halted cause
  have writes := State.enterHalted_eq halted cause
  rw [tx] at writes keptNext keptSending keptStopped
  generalize s.enterHalted cause = t at sections writes
  obtain ⟨secs, rfl⟩ : ∃ secs, t = { s with
      mode := .halted, cause := some cause, cfgSelectLow := false, cfgClock := 0, loadingTimer := .stopped
      listeningTimer := .stopped, tx := x.halt, rx := s.rx.halt
      mirror := s.mirror.map fun e => e.map MirrorEntry.halt, sections := secs, lines := .const 8 .low } :=
    ⟨_, writes⟩
  obtain ⟨stateSending, stateMute, stateQuiet⟩ := x.halt_states
  obtain ⟨liveSending, liveStopped⟩ := x.halt_live
  rw [kept.state] at stateSending stateMute stateQuiet liveSending liveStopped
  have muteStopped : s.tx.state = .mute → s.tx.state ≠ .sending := fun h h' => nomatch h.symm.trans h'
  have sent : s.tx.state = .sending → x.live = s.tx.live := fun h => kept.live (by rw [h]; decide)
  refine ⟨rfl, rfl, rfl, rfl, rfl, rfl, rfl, rfl, rfl, rfl, rfl, rfl, rfl, fun m => Table.get_map _ _ _,
    fun n => (sections n).trans rfl, fun p => ?_, fun n => ?_, rfl, kept.startCounters, stays.entries, fun _ => ?_,
    fun mute => absurd (Option.some.inj mute) notMute, fun n => Table.get_const _ _, rfl, rfl⟩
  · exact congrArg Timer.running (Table.get_map _ _ _)
  · exact congrArg Timer.running (Table.get_map _ _ _)
  · exact ⟨kept.failures, fun h => ⟨stateSending h, (liveSending h).1.trans (sent h)⟩,
      fun h => ⟨stateMute h, (liveStopped (muteStopped h)).1⟩, fun h h' => ⟨stateQuiet h h', (liveStopped h).1⟩,
      keptNext, keptSending, keptStopped⟩

/-! ### The last character of a frame (R84 to R87) -/

/-- The receiver once a frame has been judged (R84). -/
def Receiver.hunting (r : Receiver) : Receiver :=
  { r with assembling := false, buffer := [], inCharacter := false, idleCount := 0, sent := none }

/-- The byte that gives a frame its length has it judged (R84). -/
theorem State.takeCharacter_judged {s : State} {b : Byte} (whole : s.rx.completes b = true) :
    s.takeCharacter b = (s.withRx (s.rx.takeByte b)).judgeFrame (s.rx.buffer ++ [b]) := by
  obtain ⟨assembling, _, two, _⟩ := Receiver.completes_iff.1 whole
  have buffer : (s.rx.takeByte b).buffer = s.rx.buffer ++ [b] := if_pos assembling
  rcases s.takeCharacter_cases b with ⟨length, _, _⟩ | ⟨_, e⟩ | ⟨short, _, _⟩
  · have one := (Receiver.atLength_iff.1 length).2.2
    omega
  · rw [e, buffer]
  · exact nomatch short.symm.trans whole

theorem State.ownFrame_iff {s : State} {bytes : List Byte} : s.ownFrame bytes = true ↔
    (s.tx.state = .sending ∧ ∃ lf, s.tx.live = some lf ∧ lf.frame.encode = bytes) ∨ s.rx.sent = some bytes := by
  unfold State.ownFrame Transmitter.isSending
  cases s.tx.live <;> simp

/-- Admission of a good frame of another station: to a free handler, to the FIFO, or to neither (R87). -/
theorem Receiver.hunting_enqueue (r : Receiver) (bytes : List Byte) :
    (r.handling = none → r.fifo = [] → r.hunting.enqueue bytes = { r.hunting with handling := some bytes }) ∧
      (r.handling.isSome = true → r.fifo.length < 2 →
        r.hunting.enqueue bytes = { r.hunting with fifo := r.fifo ++ [bytes] }) ∧
      (r.handling.isSome = true → r.fifo.length = 2 → r.hunting.enqueue bytes = r.hunting) := by
  refine ⟨fun free empty => ?_, fun busy room => ?_, fun busy full => ?_⟩
  · simp [Receiver.enqueue, Receiver.hunting, Receiver.takeUp, Config.fifoCapacity, free, empty]
  · obtain ⟨held, busy⟩ := Option.isSome_iff_exists.1 busy
    simp [Receiver.enqueue, Receiver.hunting, Receiver.takeUp, Config.fifoCapacity, busy, room]
  · simp [Receiver.enqueue, Receiver.hunting, Config.fifoCapacity, full]

/-- Settles O35: the last character has its frame judged, and each verdict is one case. -/
theorem frameCompleteOutcomes : Obligations.FrameCompleteOutcomes := by
  intro s data a l b rest listens inside assembling read buffer low high length
  have halted : s.mode ≠ .halted := fun mode => by rw [mode] at listens; cases listens
  have whole : s.rx.completes b = true := Receiver.completes_iff.2 ⟨assembling, inside, by simp [buffer], by
    rw [buffer]
    simp [frameLength]
    omega⟩
  have source : sourceOf (s.rx.buffer ++ [b]) = a.extractLsb' 0 5 := by rw [buffer]; rfl
  have complete : exec (.receiverFrameComplete data) s = .next (s.takeCharacter b) := by
    rw [← byteOfData_of_reads read] at whole ⊢
    exact congrArg Host.Outcome.next (if_pos ⟨listens, whole⟩)
  rw [exec_characterComplete listens inside read, complete, State.takeCharacter_judged whole, ← State.ownFrame_iff,
    ← source]
  have verdict := State.judgeFrame_cases (s.withRx (s.rx.takeByte b)) (s.rx.buffer ++ [b])
  change (_ ∧ _ = s.withRx s.rx.hunting) ∨ (_ ∧ _ ∧ s.ownFrame (s.rx.buffer ++ [b]) = true ∧ _ = s.withRx s.rx.hunting) ∨
    (_ ∧ _ ∧ s.ownFrame (s.rx.buffer ++ [b]) = false ∧ _ = ((s.withRx s.rx.hunting).enterHalted .clash).driveAttn) ∨
    (_ ∧ _ ∧ _ = s.withRx (s.rx.hunting.enqueue (s.rx.buffer ++ [b]))) at verdict
  obtain ⟨admitted, queued, overrun⟩ := s.rx.hunting_enqueue (s.rx.buffer ++ [b])
  refine ⟨rfl, fun bad => ?_, fun good here => ⟨fun own => ?_, fun clash => ?_⟩, fun good foreign => ?_⟩
  · rcases verdict with ⟨_, e⟩ | ⟨good, _⟩ | ⟨good, _⟩ | ⟨good, _⟩
    · rw [e]; rfl
    all_goals exact absurd good bad
  · rcases verdict with ⟨bad, _⟩ | ⟨_, _, _, e⟩ | ⟨_, _, other, _⟩ | ⟨_, foreign, _⟩
    · exact absurd good bad
    · rw [e]; rfl
    · exact nomatch own.symm.trans other
    · exact absurd here foreign
  · rcases verdict with ⟨bad, _⟩ | ⟨_, _, own, _⟩ | ⟨_, _, _, e⟩ | ⟨_, foreign, _⟩
    · exact absurd good bad
    · exact absurd own clash
    · refine ⟨_, rfl, ?_⟩
      rw [e]
      refine ⟨haltedFrom_enterHalted_inAnyMode (s := s.withRx s.rx.hunting) halted (by decide), ?_⟩
      rw [State.enterHalted_eq (s := s.withRx s.rx.hunting) halted]
      rfl
    · exact absurd here foreign
  · rcases verdict with ⟨bad, _⟩ | ⟨_, here, _⟩ | ⟨_, here, _⟩ | ⟨_, _, e⟩
    · exact absurd good bad
    · exact absurd here foreign
    · exact absurd here foreign
    · rw [e]
      refine ⟨fun free empty => ?_, fun busy room => ?_, fun busy full => ?_⟩
      · rw [admitted free empty]; rfl
      · rw [queued busy room]; rfl
      · rw [overrun busy full]; rfl

end Sys2Proof.Machine

namespace Sys2Proof.Machine

open Sys2Proof.Claims

/-! ## Proofs: a settle answer -/

/-! ### The receiver is read by no effect of a frame -/

section
variable (s : State) (x : Receiver)

theorem State.sectionChangeDue_withRx (n : Slot) :
    (s.withRx x).sectionChangeDue n = (s.sectionChangeDue n).withRx x := by
  unfold State.sectionChangeDue
  rw [apply_ite (State.withRx · x)]
  rfl

theorem State.handOn_withRx (n : Slot) (state : SectionState) :
    (s.withRx x).handOn n state = (s.handOn n state).withRx x := by
  unfold State.handOn
  rw [State.sectionChangeDue_withRx]
  rfl

theorem State.applySection_withRx (n : Slot) (f : Section → Section) :
    (s.withRx x).applySection n f = (s.applySection n f).withRx x := by
  unfold State.applySection
  rw [State.withRx_sections]
  cases s.sections.get n with
  | none => rfl
  | some sec =>
    dsimp only
    rw [apply_ite (State.withRx · x), ← State.handOn_withRx]
    rfl

theorem State.notifySections_withRx (notice : Option DisturbanceCause) (m : EntryIndex) :
    (s.withRx x).notifySections notice m = (s.notifySections notice m).withRx x :=
  List.foldl_hom (State.withRx · x) fun t n => by
    unfold State.reachSection
    rw [State.applySection_withRx, State.evaluateSection_congr (s := t.withRx x) (t := t) rfl rfl]

theorem State.present_withRx (source : Station) (c : PointContent) :
    (s.withRx x).present source c = (s.present source c).withRx x := by
  have found : (s.withRx x).entryFor source c.point = s.entryFor source c.point := rfl
  unfold State.present
  rw [found]
  cases s.entryFor source c.point with
  | none => rfl
  | some m =>
    dsimp only
    unfold State.presentAt
    rw [State.withRx_mirror]
    cases s.mirror.get m with
    | none => rfl
    | some e =>
      dsimp only
      cases e.hold with
      | unheard | stale v => rfl
      | fresh v => exact State.notifySections_withRx (s.setMirror m (e.accept c)) x (v.judge c) m

end

/-- Whatever frame was handled, its handling ends alike (R87). -/
theorem State.handled_withHandling (s : State) (handling : Option (List Byte)) :
    (s.withRx { s.rx with handling := handling }).handled = s.handled := by
  unfold State.handled
  rw [State.finishHandling_eq, State.finishHandling_eq]
  rfl

/-! ### The settlement logic (R137 to R139) -/

theorem State.termNames_iff {s : State} {sec : Section} {source : Station} {p : PointIndex} {i : Nat} :
    s.termNames sec source p i = true ↔ asksFor s sec source p i := by
  unfold State.termNames asksFor
  cases sec.terms[i]? with
  | none => simp
  | some u =>
    unfold State.remotePoint
    cases src : u.source with
    | localPoint q => simp [src]
    | mirror m => simp [src]

theorem asksFor_congr {s t : State} (mirror : s.mirror = t.mirror) {sec : Section} {source : Station} {p : PointIndex}
    {i : Nat} : asksFor s sec source p i ↔ asksFor t sec source p i := by
  unfold asksFor
  rw [mirror]

section Answer

variable {s : State} {tag : Serial} {source : Station} {p : PointIndex} {mark : Bool} {sec : Section} {r : Round}

theorem State.answerCounts_iff : s.answerCounts tag source p mark sec r = true ↔
    r.tag = tag ∧ mark = true ∧ ∃ i ∈ r.unanswered, asksFor s sec source p i := by
  simp [State.answerCounts, List.any_eq_true, State.termNames_iff, and_assoc]

theorem State.mem_stillUnanswered {i : Nat} : i ∈ s.stillUnanswered source p sec r ↔
    i ∈ r.unanswered ∧ ¬ asksFor s sec source p i := by
  simp [State.stillUnanswered, ← State.termNames_iff]

/-- An answer that does not count leaves the section as it is (R138). -/
theorem State.takeAnswer_of_not_counts
    (ignored : ∀ r, sec.round = some r → s.answerCounts tag source p mark sec r = false) :
    s.takeAnswer tag source p mark sec = sec := by
  rcases s.takeAnswer_cases tag source p mark sec with e | ⟨r, round, counts, _⟩
  · exact e
  · exact nomatch (ignored r round).symm.trans counts

/-- A counting answer, by what it leaves unanswered (R137, R139). -/
theorem State.takeAnswer_of_counts (round : sec.round = some r)
    (counts : s.answerCounts tag source p mark sec r = true) :
    s.takeAnswer tag source p mark sec =
      if s.stillUnanswered source p sec r = [] then { sec with state := .clear, round := none }
      else { sec with round := some { r with unanswered := s.stillUnanswered source p sec r } } := by
  unfold State.takeAnswer
  rw [round]
  dsimp only
  rw [if_pos counts]
  cases s.stillUnanswered source p sec r <;> simp

end Answer

/-- An evaluation that changes nothing writes nothing. -/
theorem State.applySection_of_fixed {s : State} {n : Slot} {f : Section → Section}
    (fixed : ∀ sec, s.sections.get n = some sec → f sec = sec) : s.applySection n f = s := by
  unfold State.applySection
  cases slot : s.sections.get n with
  | none => rfl
  | some sec =>
    have unchanged : sectionChanged sec sec = false := by simp [sectionChanged]
    have same : s.setSection n sec = s := by
      unfold State.setSection
      rw [← slot, Table.set_get]
    have followed : s.followRound n sec sec = s := by
      unfold State.followRound roundEnded openedRound
      cases sec.round <;> simp
    dsimp only
    rw [fixed sec slot, unchanged, same, followed]
    rfl

/-- Only the line of the evaluated slot is written. -/
theorem State.applySection_lines_set (s : State) (n : Slot) (f : Section → Section) :
    (s.applySection n f).lines = s.lines.set n ((s.applySection n f).lines.get n) := by
  ext k
  by_cases here : k = n
  · rw [here, Table.get_set_same]
  · rw [Table.get_set_other _ _ here, State.applySection_line_other _ _ here]

/-- The mark of an answer: its entry is FRESH and finds no restart and no jump (R92, R98). -/
theorem State.ordinaryUpdate_of_names {s : State} {m : EntryIndex} {e : MirrorEntry} {v : MirrorView}
    {source : Station} {c : PointContent} (named : names s m e source c.point) (fresh : e.hold = .fresh v)
    (update : v.judge c = none) : s.ordinaryUpdate source c = true := by
  simp [State.ordinaryUpdate, State.entryFor_of_names named, named.1, fresh, update]

theorem State.ordinaryUpdate_of_unusual {s : State} {source : Station} {c : PointContent}
    (unusual : ∀ m e v, s.mirror.get m = some e → e.station = source → e.point = c.point → e.hold = .fresh v →
      v.judge c ≠ none) : s.ordinaryUpdate source c = false := by
  unfold State.ordinaryUpdate
  cases found : s.entryFor source c.point with
  | none => rfl
  | some m =>
    obtain ⟨e, slot, station, point⟩ := State.entryFor_spec found
    dsimp only
    rw [slot]
    dsimp only
    cases fresh : e.hold with
    | unheard | stale v => rfl
    | fresh v => exact decide_eq_false (unusual m e v slot station point fresh)

/-! ### A SETTLE ANSWER handled (R92) -/

/-- What a SETTLE ANSWER does once its counts have been presented (R92). -/
def State.settledBy (s : State) (requester : Station) (n : Slot) (tag : Serial) (source : Station) (c : PointContent) :
    State :=
  if s.mode = .running ∧ s.station = some requester then
    (s.present source c).answerRound n tag source c.point (s.ordinaryUpdate source c)
  else s.present source c

section Handled

variable {s : State} {bytes : List Byte} {source requester : Station} {n : Slot} {tag : Serial} {c : PointContent}

theorem exec_settleAnswer (listens : s.mode.listens = true) (handling : s.rx.handling = some bytes)
    (read : parseFrame bytes = some (.settleAnswer source requester n tag c)) :
    exec .settleAnswer s = .next (s.settledBy requester n tag source c).handled := by
  have cls : classOf bytes = 1 := ofClass_of_parseFrame read
  exact congrArg Host.Outcome.next (State.endHandling_valid listens handling (by rw [cls]; rfl) read)

/-- A COUNT REPORT of the same content, handled instead (R90). -/
theorem exec_countReport_instead (listens : s.mode.listens = true) {report : List Byte}
    (read : parseFrame report = some (.countReport source c)) :
    exec .countReport (s.withRx { s.rx with handling := some report }) =
      .next (s.present source c).handled := by
  have rx : (s.present source c).rx = s.rx := s.present_rx source c
  rw [exec_countReport (s := s.withRx { s.rx with handling := some report }) listens rfl read, State.present_withRx,
    ← rx, State.handled_withHandling]

end Handled

end Sys2Proof.Machine

namespace Sys2Proof.Machine

open Sys2Proof.Claims

/-- Where the answer does not count, it is a COUNT REPORT (R138). -/
theorem State.settledBy_of_not_counts {s : State} {requester : Station} {n : Slot} {tag : Serial} {source : Station}
    {c : PointContent} (ignored : s.mode = .running → s.station = some requester →
      ∀ sec r, (s.present source c).sections.get n = some sec → sec.round = some r →
        (s.present source c).answerCounts tag source c.point (s.ordinaryUpdate source c) sec r = false) :
    s.settledBy requester n tag source c = s.present source c := by
  unfold State.settledBy
  split
  · rename_i due
    exact State.applySection_of_fixed fun sec slot =>
      State.takeAnswer_of_not_counts fun r round => ignored due.1 due.2 sec r slot round
  · rfl

/-- The section table after an answer of an ordinary update to this station (R92, R137). -/
theorem State.settledBy_running {s : State} {own : Station} (running : s.mode = .running)
    (here : s.station = some own) {n : Slot} {tag : Serial} {source : Station} {c : PointContent}
    (ordinary : s.ordinaryUpdate source c = true) :
    s.settledBy own n tag source c =
      (s.present source c).applySection n ((s.present source c).takeAnswer tag source c.point true) := by
  unfold State.settledBy State.answerRound
  rw [if_pos ⟨running, here⟩, ordinary]

/-- An evaluation within a handling, beside the handling without it. -/
theorem State.applySection_handled_eq (s : State) (n : Slot) (f : Section → Section) :
    (s.applySection n f).handled = { s.handled with
      sections := (s.applySection n f).sections
      tx := (s.applySection n f).handled.tx
      lines := s.lines.set n ((s.applySection n f).lines.get n)
      attn0 := (s.applySection n f).handled.attn0
      attn1 := (s.applySection n f).handled.attn1 } := by
  have parts := s.applySection_eq n f
  have lines := s.applySection_lines_set n f
  have ends := (s.applySection n f).handled_eq
  rw [s.handled_eq, ← lines]
  generalize s.applySection n f = u at parts ends
  obtain ⟨w, rfl⟩ : ∃ w, u = s.withSectionParts w := ⟨u, parts⟩
  exact ends

theorem MirrorView.judge_unusual {v : MirrorView} {c : PointContent}
    (unusual : (c.start = true ∧ v.start = false) ∨ 64 < deltaOf c.nAB v.nAB ∨ 64 < deltaOf c.nBA v.nBA) :
    v.judge c ≠ none := by
  by_cases restart : c.start = true ∧ v.start = false
  · rw [MirrorView.judge_restart restart.1 restart.2]
    exact nofun
  · rw [MirrorView.judge_jump restart (unusual.resolve_left restart)]
    exact nofun

/-- The first stage of every answer, and of a counting one the second (R92, R137, R138). -/
theorem settleAnswer_stages (s : State) (bytes report : List Byte) (source requester : Station) (n : Slot)
    (tag : Serial) (c : PointContent) (listens : s.mode.listens = true) (handling : s.rx.handling = some bytes)
    (read : parseFrame bytes = some (.settleAnswer source requester n tag c))
    (read' : parseFrame report = some (.countReport source c)) :
    ∃ u, exec .countReport (s.withRx { s.rx with handling := some report }) = .next u ∧
      ((s.mode = .listening ∨ s.station ≠ some requester ∨
          (∀ m e v, s.mirror.get m = some e → e.station = source → e.point = c.point → e.hold = .fresh v →
            (c.start = true ∧ v.start = false) ∨ 64 < deltaOf c.nAB v.nAB ∨ 64 < deltaOf c.nBA v.nBA) ∨
          ∀ sec r, u.sections.get n = some sec → sec.round = some r →
            r.tag ≠ tag ∨ ∀ i ∈ r.unanswered, ¬ asksFor u sec source c.point i) →
        exec .settleAnswer s = .next u) ∧
      ∀ m e v sec r, s.mode = .running → s.station = some requester → names s m e source c.point →
        e.hold = .fresh v → ¬ (c.start = true ∧ v.start = false) → deltaOf c.nAB v.nAB ≤ 64 →
        deltaOf c.nBA v.nBA ≤ 64 → u.sections.get n = some sec → sec.round = some r → r.tag = tag →
        (∃ i ∈ r.unanswered, asksFor u sec source c.point i) →
        ∃ t left, exec .settleAnswer s = .next t ∧
          (∀ i, i ∈ left ↔ i ∈ r.unanswered ∧ ¬ asksFor u sec source c.point i) ∧
          t = { u with
                sections := u.sections.set n (some
                  (if left = [] then { sec with state := .clear, round := none }
                  else { sec with round := some { r with unanswered := left } }))
                tx := t.tx, lines := u.lines.set n (t.lines.get n), attn0 := t.attn0, attn1 := t.attn1 } := by
  have asks {sec : Section} {i : Nat} : asksFor (s.present source c).handled sec source c.point i ↔
      asksFor (s.present source c) sec source c.point i := asksFor_congr (State.handled_mirror _)
  refine ⟨_, exec_countReport_instead listens read', fun ignored => ?_,
    fun m e v sec r running here named fresh noRestart near near' slot round same asked => ?_⟩
  · rw [exec_settleAnswer listens handling read, State.settledBy_of_not_counts]
    intro running here sec r slot round
    refine Bool.eq_false_iff.2 fun counts => ?_
    obtain ⟨same, mark, i, mem, asked⟩ := State.answerCounts_iff.1 counts
    rcases ignored with listening | elsewhere | unusual | unasked
    · exact nomatch running.symm.trans listening
    · exact elsewhere here
    · have unmarked := State.ordinaryUpdate_of_unusual fun m e v slot station point fresh =>
        MirrorView.judge_unusual (unusual m e v slot station point fresh)
      exact nomatch mark.symm.trans unmarked
    · rw [State.handled_sections] at unasked
      rcases unasked sec r slot round with other | none
      · exact other same
      · exact none i mem (asks.2 asked)
  · rw [State.handled_sections] at slot
    obtain ⟨i, mem, asked⟩ := asked
    have ordinary := State.ordinaryUpdate_of_names named fresh (MirrorView.judge_update noRestart near near')
    have counts : (s.present source c).answerCounts tag source c.point true sec r = true :=
      State.answerCounts_iff.2 ⟨same, rfl, i, mem, asks.1 asked⟩
    refine ⟨_, (s.present source c).stillUnanswered source c.point sec r, exec_settleAnswer listens handling read,
      fun i => ?_, ?_⟩
    · rw [State.mem_stillUnanswered, asks]
    · have both := (s.present source c).applySection_handled_eq n
        ((s.present source c).takeAnswer tag source c.point true)
      rw [State.applySection_sections, slot] at both
      dsimp only at both
      rw [State.takeAnswer_of_counts round counts] at both
      rw [State.settledBy_running running here ordinary, State.handled_sections, State.handled_lines,
        State.handled_lines]
      exact both

/-- A section that an answer changes has its status held (R66, R128, R169). -/
theorem settleAnswer_statusTaken (s : State) (bytes : List Byte) (source requester : Station) (n : Slot) (tag : Serial)
    (c : PointContent) (running : s.mode = .running) (handling : s.rx.handling = some bytes)
    (read : parseFrame bytes = some (.settleAnswer source requester n tag c)) (pending : PendingSound s) :
    ∃ t, exec .settleAnswer s = .next t ∧
      ∀ k, sectionMoved (s.sections.get k) (t.sections.get k) → statusTaken t k := by
  refine ⟨_, exec_settleAnswer (by rw [running]; rfl) handling read, fun k moved => ?_⟩
  obtain ⟨kept, follows⟩ := State.statusFollows_present pending.kept running source c k
  have mode : (s.present source c).mode = .running := (s.present_mode source c).trans running
  have settled : PendingKept (s.settledBy requester n tag source c) ∧
      s.statusFollows k (s.settledBy requester n tag source c) := by
    unfold State.settledBy
    split
    · exact ⟨PendingFollow.applySection_running kept mode n _, follows.applySection kept mode n _⟩
    · exact ⟨kept, follows⟩
  exact settled.2.statusTaken_handled settled.1 moved

/-! ### An answer that shows no change (R98, R109, R137) -/

/-- A net contribution of 0 leaves a balance of 0 (R112). -/
theorem Section.applyNet_zero {sec : Section} (balance : sec.balance = some 0) : sec.applyNet 0 = sec := by
  rcases sec.applyNet_cases 0 with ⟨_, e⟩ | ⟨b, held, ⟨low, _⟩ | ⟨high, _⟩ | ⟨b', sum, _, e⟩⟩
  · exact e
  · omega
  · obtain rfl := Option.some.inj (held.symm.trans balance)
    omega
  · obtain rfl := Option.some.inj (held.symm.trans balance)
    obtain rfl : b' = 0 := by omega
    rw [e, ← balance]

/-- A SETTLING section of which every reached term has applied what its source shows is left as it is (R109, R111,
R116). -/
theorem State.evaluateSection_applied {s : State} {src : TermSource} {v : SourceView} (view : s.source src = some v)
    {sec : Section} (settling : sec.state = .settling) (balance : sec.balance = some 0) (normal : v.condition = .normal)
    (free : v.head = .free)
    (applied : ∀ t ∈ sec.terms, t.source = src → t.aAB = v.nAB ∧ t.aBA = v.nBA ∧ t.aSerial = v.serial) :
    s.evaluateSection none src sec = sec := by
  have follow : sec.terms.map (Term.follow src v) = sec.terms := by
    refine (List.map_congr_left fun t mem => ?_).trans (List.map_id _)
    by_cases reached : t.source = src
    · obtain ⟨nAB, nBA, serial⟩ := applied t mem reached
      rw [Term.follow, if_pos reached, ← nAB, ← nBA, ← serial]
      rfl
    · exact if_neg reached
  have unmoved : sec.pointDisturbed src v = false := by
    refine Bool.eq_false_iff.2 fun moved => ?_
    obtain ⟨t, mem, differs⟩ := List.any_eq_true.1 moved
    simp only [Bool.and_eq_true, Bool.or_eq_true, decide_eq_true_iff] at differs
    obtain ⟨reached, serial | condition⟩ := differs
    · exact serial (applied t mem reached).2.2.symm
    · exact condition normal
  have net : sec.netContribution src v = 0 := by
    refine List.sum_eq_zero fun x mem => ?_
    obtain ⟨t, listed, rfl⟩ := List.mem_map.1 mem
    split
    · rename_i reached
      obtain ⟨nAB, nBA, _⟩ := applied t listed reached
      unfold Term.contribution countDelta
      rw [nAB, nBA, BitVec.sub_self, BitVec.sub_self]
      cases t.sense <;> rfl
    · rfl
  have counts : sec.takeCounts none src v = sec := by
    rcases sec.takeCounts_cases none src v with ⟨_, e⟩ | ⟨_, _, notice, _⟩ | ⟨_, _, moved, _⟩ | ⟨_, _, _, e⟩
    · exact e
    · cases notice
    · exact nomatch moved.symm.trans unmoved
    · rw [e, net, Section.applyNet_zero balance]
  have outcome : sec.stateOutcome 0 .free = sec := by
    unfold Section.stateOutcome
    rw [settling]
    exact if_neg (by decide)
  have event : sec.takeEvent none src v = sec := by
    dsimp only [Section.takeEvent]
    rw [counts, follow, net, free]
    exact outcome
  unfold State.evaluateSection
  rw [view]
  dsimp only
  rw [event, s.settleTest_of_state (.inr (.inl settling))]

/-- A notification that leaves a section as it is leaves its line as it is. -/
theorem State.notifySections_fixed {s : State} {notice : Option DisturbanceCause} {m : EntryIndex} {n : Slot}
    {sec : Section} (slot : s.sections.get n = some sec)
    (fixed : sec.uses (.mirror m) = true → s.evaluateSection notice (.mirror m) sec = sec) :
    (s.notifySections notice m).sections.get n = some sec ∧
      (s.notifySections notice m).lines.get n = s.lines.get n := by
  obtain ⟨t, slot', line, _, evaluates, sections, lines⟩ := s.notifySections_slot notice m n
  have still : t.reachSection n notice (.mirror m) = t := State.applySection_of_fixed fun sec' held => by
    obtain rfl := Option.some.inj (slot.symm.trans (slot'.symm.trans held))
    rw [evaluates]
    split
    · exact fixed ‹_›
    · rfl
  rw [sections, lines, still]
  exact ⟨slot'.trans slot, line⟩

/-- The terms that ask for the point of an entry are those on the entry (R137, R178). -/
theorem asksFor_iff_of_names {s t : State} {m : EntryIndex} {e : MirrorEntry} {source : Station} {c : PointContent}
    (named : names s m e source c.point) (mirror : t.mirror = s.mirror.set m (some (accepted e c))) {sec : Section}
    {i : Nat} : asksFor t sec source c.point i ↔ sec.terms[i]?.map Term.source = some (.mirror m) := by
  obtain ⟨slot, station, point, only⟩ := named
  unfold asksFor
  rw [mirror]
  constructor
  · rintro ⟨u, k, f, term, src, held, station', point'⟩
    have here : k = m := by
      by_contra apart
      rw [Table.get_set_other _ _ apart] at held
      exact apart (only k f held station' point')
    rw [term, Option.map_some, src, here]
  · intro on
    obtain ⟨u, term, src⟩ := Option.map_eq_some_iff.1 on
    exact ⟨u, m, accepted e c, term, src, Table.get_set_same _ _ _, station, point⟩

/-! ### The request of a round that has ended (R134) -/

/-- No request of this slot is pending. -/
def Transmitter.noRequest (n : Slot) (t : Transmitter) : Prop := ∀ e ∈ t.entries, e.kind.isRequest n = false

namespace Transmitter.noRequest

variable {n : Slot}

/-- A status that falls due is no request. -/
theorem sectionChangeDue {s : State} (none : s.tx.noRequest n) (m : Slot) : (s.sectionChangeDue m).tx.noRequest n := by
  have appended {t : Transmitter} (none : t.noRequest n) (cls : Nat) : (t.append (.status m) cls).noRequest n := by
    intro e mem
    rcases List.mem_append.1 mem with mem | mem
    · exact none e mem
    · rw [List.mem_singleton.1 mem]
      rfl
  have due : (s.tx.statusDue m .change).noRequest n := by
    unfold Transmitter.statusDue Transmitter.hold
    split
    · intro e mem
      obtain ⟨f, listed, rfl⟩ := List.mem_map.1 mem
      split <;> exact none f listed
    · split
      · exact none
      · exact appended none 4
  unfold State.sectionChangeDue
  split
  · exact due
  · exact none

/-- A round that ends takes its request from the list (R134). -/
theorem of_ended {s : State} {before : Section} (slot : s.sections.get n = some before) {f : Section → Section}
    (round : before.round.isSome = true) (ended : (f before).round = none) : (s.applySection n f).tx.noRequest n := by
  have followed : ((s.setSection n (f before)).followRound n before (f before)).tx.noRequest n := by
    obtain ⟨r, round⟩ := Option.isSome_iff_exists.1 round
    have closed : roundEnded before (f before) = true := (roundEnded_iff _ _).2 ⟨r.id, by rw [round]; rfl, by simp [ended]⟩
    have unopened : openedRound before (f before) = none := by
      unfold openedRound
      rw [ended]
    unfold State.followRound
    rw [closed, unopened]
    exact fun e mem => Bool.not_eq_true' _ ▸ (List.mem_filter.1 mem).2
  unfold State.applySection
  rw [slot]
  dsimp only
  split
  · exact sectionChangeDue followed n
  · exact followed

/-- A request of a closed round does not return from the next layer (R67). -/
theorem preempt {s : State} (none : s.tx.noRequest n) (closed : s.roundId n = .none) : s.preempt.tx.noRequest n := by
  rcases s.preempt_cases with ⟨_, e⟩ | ⟨lf, _, _, _, e⟩ <;> rw [e]
  · exact none
  · have returned : (s.givenWay lf).noRequest n := by
      unfold Transmitter.noRequest
      rcases s.givenWay_cases lf with ⟨_, entries⟩ | ⟨opened, _, entries⟩ | ⟨_, f, mem, _, entries⟩ <;> rw [entries]
      · exact none
      · intro g mem
        rcases List.mem_cons.1 ((insertByPlace_perm _ _).mem_iff.1 mem) with rfl | mem
        · rw [roundGone_iff, not_not] at opened
          cases kind : lf.entry.kind with
          | request k id tag =>
            rw [kind, State.roundOpen_request] at opened
            refine Bool.eq_false_iff.2 fun same => ?_
            rw [beq_iff_eq.1 same, closed] at opened
            cases opened
          | report p | status k | answer requester k p tag => rfl
        · exact none g mem
      · intro g mem'
        rcases List.mem_cons.1 ((insertByPlace_perm _ _).mem_iff.1 mem') with rfl | mem'
        · exact none f mem
        · exact none g (List.mem_filter.1 mem').1
    rcases (s.withTx (s.givenWay lf)).loadNext_cases with ⟨_, e⟩ | ⟨g, _, e⟩ <;> rw [e]
    · exact returned
    · exact fun h mem => returned h (List.mem_filter.1 mem).1

end Transmitter.noRequest

/-! ### A quiet answer to a round (R137 to R139) -/

/-- What is left of a round when a term on this entry has answered (R137). -/
def Round.waiting (r : Round) (sec : Section) (m : EntryIndex) : List Nat :=
  r.unanswered.filter fun i => sec.terms[i]?.map Term.source ≠ some (.mirror m)

section Quiet

variable {s : State} {n : Slot} {sec : Section} {m : EntryIndex} {source : Station} {p : PointIndex} {tag : Serial}
  {r : Round}

/-- A marked answer of the round's tag, where the terms that ask for its point are those on one entry. -/
theorem State.takeAnswer_quiet (asks : ∀ i, asksFor s sec source p i ↔ sec.terms[i]?.map Term.source = some (.mirror m))
    (round : sec.round = some r) :
    (r.waiting sec m ≠ [] → s.takeAnswer r.tag source p true sec =
      { sec with round := some { r with unanswered := r.waiting sec m } }) ∧
      (r.unanswered ≠ [] → r.waiting sec m = [] →
        s.takeAnswer r.tag source p true sec = { sec with state := .clear, round := none }) := by
  have still : s.stillUnanswered source p sec r = r.waiting sec m := by
    refine List.filter_congr fun i _ => ?_
    rw [Bool.eq_iff_iff, Bool.not_eq_true', ← Bool.not_eq_true, State.termNames_iff, asks, decide_eq_true_iff]
  have counted (asked : ∃ i ∈ r.unanswered, asksFor s sec source p i) :=
    State.takeAnswer_of_counts round (State.answerCounts_iff.2 ⟨rfl, rfl, asked⟩)
  rw [still] at counted
  refine ⟨fun more => ?_, fun awaited none => ?_⟩
  · by_cases asked : ∃ i ∈ r.unanswered, asksFor s sec source p i
    · rw [counted asked, if_neg more]
    · have all : r.waiting sec m = r.unanswered := List.filter_eq_self.2 fun i mem =>
        decide_eq_true fun on => asked ⟨i, mem, (asks i).2 on⟩
      rw [all, ← round]
      refine State.takeAnswer_of_not_counts fun r' round' => Bool.eq_false_iff.2 fun counts => asked ?_
      obtain rfl := Option.some.inj (round.symm.trans round')
      exact (State.answerCounts_iff.1 counts).2.2
  · obtain ⟨i, mem⟩ := List.exists_mem_of_ne_nil _ awaited
    have on : sec.terms[i]?.map Term.source = some (.mirror m) := by
      by_contra other
      have left : i ∈ r.waiting sec m := List.mem_filter.2 ⟨mem, decide_eq_true other⟩
      rw [none] at left
      cases left
    rw [counted ⟨i, mem, (asks i).2 on⟩, if_pos none]

/-- A round that goes on changes nothing that is handed on (R128). -/
theorem State.applySection_round {f : Section → Section} (slot : s.sections.get n = some sec) {round : Option Round}
    (goesOn : f sec = { sec with round := round }) : (s.applySection n f).lines = s.lines := by
  rw [State.applySection_lines, slot]
  dsimp only
  rw [goesOn]
  simp [sectionChanged]

/-- A section that becomes CLEAR has its line high with phase 0, where it was held low (R139, R167). -/
theorem State.applySection_clear {f : Section → Section} (running : s.mode = .running)
    (slot : s.sections.get n = some sec) (notYet : sec.state ≠ .clear) (clears : (f sec).state = .clear)
    (low : (s.lines.get n).toggling = false) :
    (s.applySection n f).lines.get n = { toggling := true, high := true, phase := 0 } := by
  have changed : sectionChanged sec (f sec) = true := by simp [sectionChanged, clears, notYet]
  rw [State.applySection_lines, slot]
  dsimp only
  rw [if_pos changed, if_pos running, Table.get_set_same, clears]
  simp [ClearLine.drive, low]

end Quiet

/-- Settles O39: the two stages of every answer, the statuses, and the answer that shows no change. -/
theorem settleAnswerCompletes : Obligations.SettleAnswerCompletes := by
  refine ⟨settleAnswer_stages, settleAnswer_statusTaken, ?_⟩
  intro s bytes source own n tag c m e v sec r running station handling read named fresh nAB nBA serial normal free
    noRestart slot settling balance round applied waiting
  have update : v.judge c = none := MirrorView.judge_update noRestart (by simp [deltaOf, nAB]) (by simp [deltaOf, nBA])
  have notified : s.present source c = (s.rebasedAt m e c).notifySections none m := by
    rw [State.present_of_fresh named fresh, update]
    rfl
  have unmoved : (s.rebasedAt m e c).evaluateSection none (.mirror m) sec = sec :=
    State.evaluateSection_applied (s.rebasedAt_source m e c) settling balance normal free fun t mem on => applied t mem on
  obtain ⟨slot', line⟩ : (s.present source c).sections.get n = some sec ∧
      (s.present source c).lines.get n = s.lines.get n := by
    rw [notified]
    exact State.notifySections_fixed (s := s.rebasedAt m e c) slot fun _ => unmoved
  have mirror := State.present_mirror_of_names named
  have asks (i : Nat) := asksFor_iff_of_names named mirror (sec := sec) (i := i)
  have rx : (s.present source c).rx = s.rx := s.present_rx source c
  have mode : (s.present source c).mode = .running := (s.present_mode source c).trans running
  have done := exec_settleAnswer (by rw [running]; rfl) handling read
  rw [State.settledBy_running running station (State.ordinaryUpdate_of_names named fresh update)] at done
  generalize s.present source c = u at slot' line mirror asks rx mode done
  have after := (u.applySection_get_same n (u.takeAnswer tag source c.point true)).trans
    ((congrArg _ slot').trans (Option.map_some ..))
  refine ⟨_, done, ?_, ?_, fun other => ?_, fun same more => ?_, fun same awaited none => ?_⟩
  · rw [State.handled_rx, State.applySection_rx, rx]
  · rw [State.handled_mirror, State.applySection_mirror, mirror, Table.get_set_same]
  · rw [State.handled_sections, after, State.takeAnswer_of_not_counts]
    intro r' round'
    obtain rfl := Option.some.inj (round.symm.trans round')
    exact Bool.eq_false_iff.2 fun counts => other (State.answerCounts_iff.1 counts).1.symm
  · subst same
    have goesOn := (State.takeAnswer_quiet asks round).1 more
    rw [State.handled_sections, State.handled_lines, after, goesOn, State.applySection_round slot' goesOn]
    exact ⟨rfl, line⟩
  · subst same
    have clears := (State.takeAnswer_quiet asks round).2 awaited none
    rw [State.handled_sections, State.handled_lines, after, clears]
    refine ⟨rfl, fun low => ?_, ?_⟩
    · exact State.applySection_clear mode slot' (by rw [settling]; decide) (by rw [clears]) (by rw [line]; exact low)
    · have ended := Transmitter.noRequest.of_ended slot' (f := u.takeAnswer r.tag source c.point true)
        (by rw [round]; rfl) (by rw [clears])
      refine Transmitter.noRequest.preempt (s := (u.applySection n _).finishHandling) ended ?_
      change ((u.applySection n _).sections.get n).bind _ = _
      rw [after, clears]
      rfl

end Sys2Proof.Machine

namespace Sys2Proof.Machine

open Sys2Proof.Claims

/-! ## Proofs: the configuration read

The ten checks of R178 and the image's fields, in words of the bytes as numbers. -/

/-! ### Bytes and words of an image (R176, R177) -/

theorem imageNat_eq (image : List Byte) (i : Nat) : imageNat image i = at1 image i := rfl

theorem imageWord_eq (image : List Byte) (i : Nat) : imageWord image i = at2 image i := wordOf_toNat _ _

theorem at1_lt (image : List Byte) (i : Nat) : at1 image i < 256 := (image.getD i 0).isLt

/-! ### A term byte (R177) -/

theorem termIsMirror_iff (t : Byte) : termIsMirror t = true ↔ 128 ≤ t.toNat := by
  have bound := t.isLt
  rw [termIsMirror, getLsbD_eq_decide, decide_eq_true_iff]
  omega

theorem termIndex_toNat (t : Byte) : (termIndex t).toNat = t.toNat % 16 := by
  rw [termIndex, BitVec.extractLsb'_toNat, Nat.shiftRight_zero]

theorem termEntry_val (t : Byte) : (termEntry t).val = t.toNat % 16 := termIndex_toNat t

theorem termPoint_val (t : Byte) : (termPoint t).val = t.toNat % 4 := by
  change (t.extractLsb' 0 2).toNat = _
  rw [BitVec.extractLsb'_toNat, Nat.shiftRight_zero]

/-- The bytes within the term count, by their places. -/
theorem imageTermBytes_getElem? (image : List Byte) (n : Slot) (i : Nat) :
    (imageTermBytes image n)[i]? =
      if i < imageTermCount image n ∧ i < 4 then some (imageByte image (sectionBase n + 5 + i)) else none := by
  have bytes : ([5, 6, 7, 8].map fun k => imageByte image (sectionBase n + k))[i]? =
      if i < 4 then some (imageByte image (sectionBase n + 5 + i)) else none := by
    rcases i with _ | _ | _ | _ | i <;> simp [Nat.add_assoc]
  rw [imageTermBytes, List.getElem?_take, bytes, ite_and]

theorem imageTermBytes_all (image : List Byte) (n : Slot) (check : Byte → Bool) :
    (imageTermBytes image n).all check = true ↔
      ∀ i : Fin 4, i.val < imageTermCount image n → check (imageByte image (sectionBase n + 5 + i.val)) = true := by
  rw [List.all_eq_true]
  constructor
  · intro all i within
    refine all _ (List.mem_iff_getElem?.2 ⟨i.val, ?_⟩)
    rw [imageTermBytes_getElem?, if_pos ⟨within, i.isLt⟩]
  · intro all t mem
    obtain ⟨i, found⟩ := List.mem_iff_getElem?.1 mem
    rw [imageTermBytes_getElem?] at found
    obtain ⟨⟨within, four⟩, same⟩ := Option.ite_none_right_eq_some.1 found
    obtain rfl := Option.some.inj same
    exact all ⟨i, four⟩ within

/-! ### The checks, one kind of record after another (R177, R178) -/

theorem headerInRange_iff (image : List Byte) : headerInRange image = true ↔
    (2 ≤ at1 image 4 ∧ at1 image 4 ≤ 8) ∧ (1 ≤ at1 image 5 ∧ at1 image 5 ≤ 50) ∧ at1 image 7 ≤ 31 ∧
      at1 image 8 ≤ 31 := by
  simp [headerInRange, within_iff, imageNat_eq, and_assoc]

theorem goodPoint_iff (image : List Byte) (p : PointIndex) :
    goodPoint image p ↔ pointInRange image p = true ∧ hysteresisGood image p = true := by
  simp only [goodPoint, pointInRange, hysteresisGood, pointBase, Bool.and_eq_true, within_iff, decide_eq_true_iff,
    imageNat_eq, imageWord_eq, Fin.forall_fin_succ, Fin.val_zero, Fin.val_succ, Nat.mul_zero, Nat.add_zero, Nat.add_assoc,
    Nat.reduceAdd, Nat.reduceMul, IsEmpty.forall_iff, and_true]
  omega

/-- A mirror record passes the range check and check 8. -/
def goodMirror (station : Station) (image : List Byte) (m : EntryIndex) : Prop :=
  at1 image (64 + 2 * m.val) ≤ 31 ∧ at1 image (65 + 2 * m.val) ≤ 3 ∧
    (at1 image (64 + 2 * m.val) ≠ 0 → at1 image (64 + 2 * m.val) ≠ station.toNat ∧
      ∀ k : EntryIndex, k ≠ m → at1 image (64 + 2 * k.val) = at1 image (64 + 2 * m.val) →
        at1 image (65 + 2 * k.val) ≠ at1 image (65 + 2 * m.val))

theorem imageMirrorStation_eq (image : List Byte) (m : EntryIndex) :
    imageMirrorStation image m = at1 image (64 + 2 * m.val) := rfl

theorem imageMirrorPoint_eq (image : List Byte) (m : EntryIndex) :
    imageMirrorPoint image m = at1 image (65 + 2 * m.val) :=
  congrArg (at1 image) (show 64 + 2 * m.val + 1 = 65 + 2 * m.val by omega)

theorem goodMirror_iff (station : Station) (image : List Byte) (m : EntryIndex) :
    goodMirror station image m ↔ mirrorInRange image m = true ∧ mirrorDistinct image station m = true := by
  simp only [goodMirror, mirrorInRange, mirrorDistinct, ← imageMirrorStation_eq, ← imageMirrorPoint_eq,
    Bool.and_eq_true, Bool.or_eq_true, within_iff, beq_iff_eq, bne_iff_ne, List.all_eq_true, mem_allEntries,
    Nat.zero_le, true_and, forall_const, and_assoc]
  refine and_congr_right fun _ => and_congr_right fun _ => ?_
  rw [Classical.or_iff_not_imp_left]
  refine imp_congr_right fun _ => and_congr_right fun _ => forall_congr' fun k => ?_
  tauto

/-- A term byte within the term count passes its range and checks 6 and 7. -/
def goodTerm (image : List Byte) (t : Nat) : Prop :=
  (t < 128 → t % 16 ≤ 3 ∧ at1 image (16 + 12 * (t % 16)) = 1) ∧ (128 ≤ t → at1 image (64 + 2 * (t % 16)) ≠ 0)

theorem goodTerm_iff (image : List Byte) (t : Byte) : goodTerm image t.toNat ↔
    (termIsMirror t || within 0 3 (termIndex t).toNat) = true ∧
      (termIsMirror t || imagePointInUse image (termPoint t)) = true ∧
      (!termIsMirror t || imageMirrorStation image (termEntry t) != 0) = true := by
  have inUse : imagePointInUse image (termPoint t) = true ↔ at1 image (16 + 12 * (t.toNat % 4)) = 1 := by
    rw [imagePointInUse, beq_iff_eq, imageNat_eq, pointBase, termPoint_val]
  have station : imageMirrorStation image (termEntry t) = at1 image (64 + 2 * (t.toNat % 16)) := by
    rw [imageMirrorStation_eq, termEntry_val]
  by_cases mirror : 128 ≤ t.toNat
  · have kind : termIsMirror t = true := (termIsMirror_iff t).2 mirror
    simp [goodTerm, kind, station, mirror, Nat.not_lt.2 mirror]
  · have kind : termIsMirror t = false := Bool.eq_false_iff.2 fun kind => mirror ((termIsMirror_iff t).1 kind)
    simp only [goodTerm, kind, Bool.false_or, Bool.not_false, Bool.true_or, and_true, within_iff, termIndex_toNat, inUse,
      mirror, Nat.not_le.1 mirror, forall_const, false_imp_iff, Nat.zero_le, true_and]
    refine and_congr_right fun low => ?_
    rw [show t.toNat % 16 = t.toNat % 4 by omega]

theorem goodSection_iff (image : List Byte) (n : Slot) : goodSection image n ↔
    sectionInRange image n = true ∧ termCountGood image n = true ∧ localTermsGood image n = true ∧
      mirrorTermsGood image n = true := by
  have flag : imageSlotInUse image n = decide (at1 image (96 + 9 * n.val) = 1) := rfl
  have terms : (∀ i : Fin 4, i.val < imageTermCount image n →
      goodTerm image (imageByte image (sectionBase n + 5 + i.val)).toNat) ↔
        (((imageTermBytes image n).all fun t => termIsMirror t || within 0 3 (termIndex t).toNat) = true ∧
          ((imageTermBytes image n).all fun t => termIsMirror t || imagePointInUse image (termPoint t)) = true ∧
          ((imageTermBytes image n).all
            fun t => !termIsMirror t || imageMirrorStation image (termEntry t) != 0) = true) := by
    simp only [goodTerm_iff, imageTermBytes_all, imp_and, forall_and]
  change (at1 image (96 + 9 * n.val) = 0 ∨ (at1 image (96 + 9 * n.val) = 1 ∧ at1 image (96 + 9 * n.val + 1) ≤ 1 ∧
    at2 image (96 + 9 * n.val + 2) ≤ 4095 ∧
    (1 ≤ at1 image (96 + 9 * n.val + 4) ∧ at1 image (96 + 9 * n.val + 4) ≤ 4) ∧
    ∀ i : Fin 4, i.val < imageTermCount image n →
      goodTerm image (imageByte image (sectionBase n + 5 + i.val)).toNat)) ↔ _
  rw [terms]
  simp only [sectionInRange, termCountGood, localTermsGood, mirrorTermsGood, flag, imageTermCount, Bool.and_eq_true,
    Bool.or_eq_true, Bool.not_eq_true', decide_eq_false_iff_not, within_iff, imageNat_eq, imageWord_eq, sectionBase,
    Nat.zero_le, true_and]
  by_cases used : at1 image (96 + 9 * n.val) = 1
  · simp only [used]
    tauto
  · simp only [used, not_false_eq_true, true_or, and_true, false_and, or_false]
    omega

/-- The ten checks of an image say what R177 and R178 say of its bytes. -/
theorem imageGood_iff (station : Station) (image : List Byte) :
    imageGood station image = true ↔ goodImage station image := by
  change _ ↔ at2 image 0 = 0x4F7A ∧ at1 image 2 = 1 ∧ at1 image 3 = station.toNat ∧
    (2 ≤ at1 image 4 ∧ at1 image 4 ≤ 8) ∧ (1 ≤ at1 image 5 ∧ at1 image 5 ≤ 50) ∧ at1 image 7 ≤ 31 ∧
    at1 image 8 ≤ 31 ∧ (∀ p, goodPoint image p) ∧ (∀ m, goodMirror station image m) ∧ (∀ n, goodSection image n) ∧
    crc image = 0#16
  simp only [goodPoint_iff, goodMirror_iff, goodSection_iff, forall_and, imageGood, imageChecks, imageInRange,
    List.all_cons, List.all_nil, id_eq, Bool.and_eq_true, List.all_eq_true, headerInRange_iff, beq_iff_eq,
    imageNat_eq, imageWord_eq, mem_allPoints, mem_allEntries, mem_allSlots, forall_const, and_true]
  tauto

/-! ### What a good image hands on (R107, R178) -/

section GoodImage

variable {station : Station} {image : List Byte} {n : Slot}

theorem imagePoint_eq (image : List Byte) (p : PointIndex) : imagePoint image p =
    if at1 image (16 + 12 * p.val) = 1 then
      some
        { spacing := at1 image (17 + 12 * p.val), vmax := at2 image (18 + 12 * p.val)
          tdA := at2 image (20 + 12 * p.val), trA := at2 image (22 + 12 * p.val)
          tdB := at2 image (24 + 12 * p.val), trB := at2 image (26 + 12 * p.val) }
    else none := by
  have place (k : Nat) : pointBase p + k = 16 + k + 12 * p.val := by unfold pointBase; omega
  simp only [imagePoint, imagePointInUse, beq_iff_eq, imageNat_eq, imageWord_eq, place]
  rfl

/-- The entry of a mirror record with a station (R94, R177). -/
theorem imageEntry_good (good : imageGood station image = true) (m : EntryIndex) :
    (at1 image (64 + 2 * m.val) = 0 → imageEntry image m = none) ∧
      (at1 image (64 + 2 * m.val) ≠ 0 → ∃ e, imageEntry image m = some e ∧
        e.station.toNat = at1 image (64 + 2 * m.val) ∧ e.point.val = at1 image (65 + 2 * m.val) ∧
        e.hold = .unheard ∧ e.age = { running := false, elapsed := 0 } ∧ e.overtaken = false) := by
  refine ⟨fun none => if_pos none, fun used => ?_⟩
  have made : imageEntry image m = some _ := if_neg used
  obtain ⟨number, point⟩ := imageEntry_name good made
  rw [imageMirrorPoint_eq] at point
  exact ⟨_, made, number, point, rfl, rfl, rfl⟩

/-- A term is what its byte says, with the values of R107. -/
theorem termOfByte_spec {t : Byte} (local' : t.toNat < 128 → t.toNat % 16 ≤ 3) :
    (t.toNat < 128 → ∃ p : PointIndex, (termOfByte t).source = .localPoint p ∧ p.val = t.toNat % 16) ∧
      (128 ≤ t.toNat → ∃ m : EntryIndex, (termOfByte t).source = .mirror m ∧ m.val = t.toNat % 16) ∧
      ((termOfByte t).sense = .inwardBA ↔ t.toNat / 64 % 2 = 1) ∧
      (termOfByte t).aAB = 0 ∧ (termOfByte t).aBA = 0 ∧ (termOfByte t).bAB = 0 ∧ (termOfByte t).bBA = 0 ∧
      (termOfByte t).aSerial = 0 := by
  refine ⟨fun low => ⟨termPoint t, if_neg fun kind => ?_, ?_⟩, fun high => ⟨termEntry t, if_pos ?_, termEntry_val t⟩,
    ?_, rfl, rfl, rfl, rfl, rfl⟩
  · have high := (termIsMirror_iff t).1 kind
    omega
  · have range := local' low
    rw [termPoint_val]
    omega
  · exact (termIsMirror_iff t).2 high
  · unfold termOfByte
    dsimp only
    rw [getLsbD_eq_decide]
    simp

/-- The terms of a section record in use, byte by byte. -/
theorem imageSection_terms (good : goodSection image n) (used : at1 image (96 + 9 * n.val) = 1) {i : Nat} {u : Term}
    (held : ((imageTermBytes image n).map termOfByte)[i]? = some u) :
    let byte := at1 image (101 + 9 * n.val + i)
    (byte < 128 → ∃ p : PointIndex, u.source = .localPoint p ∧ p.val = byte % 16) ∧
      (128 ≤ byte → ∃ m : EntryIndex, u.source = .mirror m ∧ m.val = byte % 16) ∧
      (u.sense = .inwardBA ↔ byte / 64 % 2 = 1) ∧
      u.aAB = 0 ∧ u.aBA = 0 ∧ u.bAB = 0 ∧ u.bBA = 0 ∧ u.aSerial = 0 := by
  obtain ⟨t, found, rfl⟩ := Option.map_eq_some_iff.1 ((List.getElem?_map ..).symm.trans held)
  rw [imageTermBytes_getElem?] at found
  obtain ⟨⟨within, four⟩, same⟩ := Option.ite_none_right_eq_some.1 found
  obtain rfl := Option.some.inj same
  obtain ⟨_, _, _, _, terms⟩ := good.resolve_left (by omega)
  have place : 101 + 9 * n.val + i = sectionBase n + 5 + i := by unfold sectionBase; omega
  rw [place]
  exact termOfByte_spec fun low => ((terms ⟨i, four⟩ within).1 low).1

theorem imageSection_good (good : goodSection image n) :
    (at1 image (96 + 9 * n.val) = 0 → imageSection image n = none) ∧
      (at1 image (96 + 9 * n.val) = 1 → ∃ sec, imageSection image n = some sec ∧
        sec.number = at2 image (98 + 9 * n.val) ∧ (sec.direct = true ↔ at1 image (97 + 9 * n.val) = 1) ∧
        sec.terms.length = at1 image (100 + 9 * n.val) ∧ sec.state = .disturbed ∧ sec.cause = some .start ∧
        sec.balance = none ∧ sec.swept = false ∧ sec.round = none ∧ sec.holdOff.running = false ∧
        sec.nextTag = 0 ∧ sec.restoreSerial = none ∧ sec.restoreOutcome = .none ∧
        sec.terms = (imageTermBytes image n).map termOfByte) := by
  have flag : imageSlotInUse image n = (at1 image (96 + 9 * n.val) == 1) := rfl
  have place (k : Nat) : sectionBase n + k = 96 + k + 9 * n.val := by unfold sectionBase; omega
  unfold imageSection
  rw [flag]
  refine ⟨fun free => by rw [free]; rfl, fun used => ⟨_, by rw [used]; rfl, ?_, ?_, ?_, rfl, rfl, rfl, rfl, rfl, rfl, rfl,
    rfl, rfl, rfl⟩⟩
  · dsimp only
    rw [place, imageWord_eq]
  · dsimp only
    rw [place, imageNat_eq, beq_iff_eq]
  · obtain ⟨_, _, _, ⟨_, four⟩, _⟩ := good.resolve_left (by omega)
    dsimp only
    rw [List.length_map, imageTermBytes, List.length_take, imageTermCount, place, imageNat_eq]
    change at1 image (96 + 9 * n.val + 4) ≤ 4 at four
    rw [show 96 + 4 + 9 * n.val = 96 + 9 * n.val + 4 by omega]
    exact min_eq_left four

end GoodImage

/-! ### CONFIGURATION_READ_COMPLETE (R176, R178) -/

/-- During a read the request is on the data line, and after it nothing (R176). -/
theorem State.cfgData_spec (s : State) :
    (s.cfgSelectLow = true → s.cfgClock < 8 → s.cfgData = some ((0x03#8).getLsbD (7 - s.cfgClock))) ∧
      (s.cfgSelectLow = true → 8 ≤ s.cfgClock → s.cfgClock < 16 → s.cfgData = some false) ∧
      (s.cfgSelectLow = false ∨ 16 ≤ s.cfgClock → s.cfgData = none) := by
  refine ⟨fun low early => ?_, fun low late early => ?_, State.cfgData_released⟩
  · rw [State.cfgData_request low]
    generalize s.cfgClock = k at early
    interval_cases k <;> rfl
  · rw [State.cfgData_request low]
    generalize s.cfgClock = k at late early
    interval_cases k <;> rfl

/-- The read ends: the bytes that were sent bit by bit are checked (R176, R178). -/
theorem exec_configurationReadComplete {s : State} (loading : s.mode = .loading) (reading : s.cfgSelectLow = true)
    {station : Station} (own : s.station = some station) (image : List Byte) :
    exec (.configurationReadComplete (image.flatMap bitsOf)) s = .next
      (if imageGood station image then (s.loadImage image).driveAttn else (s.enterHalted .config).driveAttn) := by
  have bytes : bytesOfBits (image.flatMap bitsOf) = image := bytesOfBits_flatMap image
  have number : s.stationNumber = station := by rw [State.stationNumber, own]; rfl
  change Host.Outcome.next _ = _
  rw [if_pos ⟨loading, reading⟩, bytes, number]

/-- In LOADING both ATTN lines are active (R174). -/
theorem State.loadImage_driveAttn {s : State} (loading : s.mode = .loading) (image : List Byte) :
    (s.loadImage image).driveAttn = { s with
      cfgSelectLow := false, cfgClock := 0, config := some (imageConfig image), attn0 := .active, attn1 := .active } := by
  have level (line : Bool) : (s.loadImage image).attnLevel line = .active :=
    if_neg (by rw [show (s.loadImage image).mode = .loading from loading]; decide)
  unfold State.driveAttn
  rw [level, level]
  rfl

/-- Settles O47: the data line, a good image field by field, and any other image. -/
theorem configurationReadCompletes : Obligations.ConfigurationReadCompletes := by
  refine ⟨State.cfgData_spec, fun s station image loading reading own _ => ?_⟩
  rw [exec_configurationReadComplete loading reading own]
  refine ⟨fun good => ?_, fun bad => ?_⟩
  · have passes := (imageGood_iff station image).2 good
    obtain ⟨_, _, _, _, _, restore1, restore2, _, _, sections, _⟩ := good
    rw [if_pos passes, State.loadImage_driveAttn loading]
    refine ⟨_, imageConfig image, rfl, rfl, rfl, rfl, rfl, ?_, ?_, fun p => ?_, fun m => ?_, fun n => ?_⟩
    · exact (BitVec.toNat_ofNat ..).trans (Nat.mod_eq_of_lt (Nat.lt_succ_of_le restore1))
    · exact (BitVec.toNat_ofNat ..).trans (Nat.mod_eq_of_lt (Nat.lt_succ_of_le restore2))
    · exact (Table.get_tabulate ..).trans (imagePoint_eq image p)
    · rw [show (imageConfig image).mirror.get m = imageEntry image m from Table.get_tabulate ..]
      exact imageEntry_good passes m
    · rw [show (imageConfig image).sections.get n = imageSection image n from Table.get_tabulate ..]
      obtain ⟨free, made⟩ := imageSection_good (sections n)
      refine ⟨free, fun used => ?_⟩
      obtain ⟨sec, held, number, direct, length, state, cause, balance, swept, round, holdOff, tag, serial, outcome,
        terms⟩ := made used
      refine ⟨sec, held, number, direct, length, state, cause, balance, swept, round, holdOff, tag, serial, outcome,
        fun i u held => ?_⟩
      rw [terms] at held
      exact imageSection_terms (sections n) used held
  · have fails : ¬ imageGood station image = true := fun passes => bad ((imageGood_iff station image).1 passes)
    have halted : s.mode ≠ .halted := by rw [loading]; decide
    rw [if_neg fails]
    refine ⟨_, rfl, haltedFrom_enterHalted halted (by rw [loading]; decide) (by decide), ?_⟩
    rw [State.enterHalted_eq halted]
    rfl

end Sys2Proof.Machine

namespace Sys2Proof.Machine

open Sys2Proof.Claims

/-! ## Proofs: the sections

An evaluation is told apart once, in the words of the claims; what every command makes of the sections is said once
after that, and the invariants follow it. -/

/-! ### A term and its source, in words of the claims (R106, R111) -/

theorem Section.uses_iff {sec : Section} {src : TermSource} :
    sec.uses src = true ↔ ∃ t ∈ sec.terms, t.source = src := by simp [Section.uses]

theorem SourceView.quiet_iff {v : SourceView} :
    v.quiet = true ↔ v.condition = .normal ∧ v.head = .free ∧ v.fresh = true := by
  simp [SourceView.quiet, and_assoc]

theorem State.termQuiet_iff_source {s : State} {t : Term} :
    s.termQuiet t = true ↔ ∃ v, s.source t.source = some v ∧ v.quiet = true := by
  unfold State.termQuiet
  cases s.source t.source <;> simp

/-- Quiet by the source a term reads is quiet by record or mirror entry (R106). -/
theorem State.termQuiet_iff {s : State} {t : Term} : s.termQuiet t = true ↔ quiet s t := by
  rw [State.termQuiet_iff_source]
  unfold quiet State.source
  cases t.source with
  | localPoint p => simp [SourceView.quiet_iff, PointRecord.source]
  | mirror m =>
    cases slot : s.mirror.get m with
    | none => simp [slot]
    | some e => cases hold : e.hold <;> simp [slot, hold, SourceView.quiet_iff, MirrorView.source]

theorem State.allQuiet_iff {s : State} {sec : Section} : s.allQuiet sec = true ↔ ∀ t ∈ sec.terms, quiet s t := by
  simp only [State.allQuiet, List.all_eq_true, State.termQuiet_iff]

theorem Term.isRemote_eq_false_iff {t : Term} : t.isRemote = false ↔ ∃ p, t.source = .localPoint p := by
  unfold Term.isRemote
  cases t.source <;> simp

theorem Section.hasRemote_iff {sec : Section} : sec.hasRemote = true ↔ ∃ t ∈ sec.terms, t.isRemote = true := by
  simp [Section.hasRemote]

/-- Entry to SETTLING, in words of the sources (R132, R133). -/
theorem settled_eq (sec : Section) : settled sec = sec.enterSettling := by
  have locals : (∀ t ∈ sec.terms, ∃ p, t.source = .localPoint p) ↔ ¬ sec.hasRemote = true := by
    simp only [Section.hasRemote_iff, not_exists, not_and, Bool.not_eq_true, Term.isRemote_eq_false_iff]
  unfold settled Section.enterSettling
  by_cases remote : sec.hasRemote = true
  · rw [if_neg fun all => locals.1 all remote, if_pos remote]
    rfl
  · rw [if_pos (locals.2 remote), if_neg remote]

theorem contribution_eq (v : SourceView) (t : Term) : contribution v t = t.contribution v := by
  have first := deltaOf_eq v.nAB t.aAB
  have second := deltaOf_eq v.nBA t.aBA
  unfold deltaOf at first second
  unfold contribution Term.contribution
  cases t.sense <;> dsimp only <;> rw [first, second]

/-- The net contribution sums over the reached terms alone (R111). -/
theorem netOf_eq (src : TermSource) (v : SourceView) (sec : Section) :
    netOf src v sec = sec.netContribution src v := by
  unfold netOf Section.netContribution
  induction sec.terms with
  | nil => rfl
  | cons t terms ih =>
    by_cases reached : t.source = src
    · simp [reached, contribution_eq, ih]
    · simp [reached, ih]

/-- A reached term finds its serial moved or the condition abnormal (R116). -/
theorem Section.pointDisturbed_iff {sec : Section} {src : TermSource} {v : SourceView} (uses : sec.uses src = true) :
    sec.pointDisturbed src v = true ↔ moved src v sec := by
  unfold Section.pointDisturbed moved
  simp only [List.any_eq_true, Bool.and_eq_true, Bool.or_eq_true, decide_eq_true_iff]
  constructor
  · rintro ⟨t, mem, reached, serial | condition⟩
    · exact .inr ⟨t, mem, reached, serial.symm⟩
    · exact .inl condition
  · rintro (condition | ⟨t, mem, reached, serial⟩)
    · obtain ⟨t, mem, reached⟩ := Section.uses_iff.1 uses
      exact ⟨t, mem, reached, .inr condition⟩
    · exact ⟨t, mem, reached, .inl (Ne.symm serial)⟩

/-! ### An evaluation told apart (R109, R112, R115, R116) -/

@[simp] theorem disturbedBy_state (cause : DisturbanceCause) (src : TermSource) (v : SourceView) (sec : Section) :
    (disturbedBy cause src v sec).state = .disturbed := by
  unfold disturbedBy
  split
  · assumption
  · rfl

/-- Where the counts disturb the section, no later step of the evaluation changes more (R109, R115). -/
theorem Section.takeEvent_disturbs {notice : Option DisturbanceCause} {src : TermSource} {v : SourceView}
    {sec : Section} {cause : DisturbanceCause} (undisturbed : sec.state ≠ .disturbed)
    (counts : sec.takeCounts notice src v = sec.disturb cause) :
    sec.takeEvent notice src v = disturbedBy cause src v sec := by
  unfold Section.takeEvent disturbedBy
  rw [counts, Section.disturb, if_neg undisturbed, if_neg undisturbed]
  rfl

/-- A section whose balance an event moves to `b`, its reached terms following their source (R109, R112). -/
def Section.moves (src : TermSource) (v : SourceView) (b : Nat) (sec : Section) : Section :=
  { followed src v sec with balance := some b }

/-- What a point change or an UPDATE makes of a section with a term on its source: the terms follow alone; a disturbance
by the point or by the balance; or a new balance, with the outcome of the state and the settle-entry test (R109). -/
theorem State.evaluateSection_cases {s : State} {src : TermSource} {v : SourceView} {sec : Section}
    (view : s.source src = some v) (shape : SectionShape sec) (uses : sec.uses src = true) :
    (sec.state = .disturbed ∧ s.evaluateSection none src sec = followed src v sec) ∨
      (sec.state ≠ .disturbed ∧ moved src v sec ∧ s.evaluateSection none src sec = disturbedBy .point src v sec) ∨
      ∃ b, sec.balance = some b ∧ ¬ moved src v sec ∧
        ((b + netOf src v sec < 0 ∧ s.evaluateSection none src sec = disturbedBy .underflow src v sec) ∨
          (1023 < b + netOf src v sec ∧ s.evaluateSection none src sec = disturbedBy .overflow src v sec) ∨
          ∃ b' : Nat, b' = b + netOf src v sec ∧ b' ≤ 1023 ∧ s.evaluateSection none src sec =
            s.settleTest ((sec.moves src v b').stateOutcome (netOf src v sec) v.head)) := by
  have evaluated : s.evaluateSection none src sec = s.settleTest (sec.takeEvent none src v) := by
    unfold State.evaluateSection
    rw [view]
  have disturbs {cause : DisturbanceCause} (undisturbed : sec.state ≠ .disturbed)
      (counts : sec.takeCounts none src v = sec.disturb cause) :
      s.evaluateSection none src sec = disturbedBy cause src v sec := by
    rw [evaluated, Section.takeEvent_disturbs undisturbed counts, s.settleTest_of_state (.inl (disturbedBy_state ..))]
  rw [netOf_eq, ← Section.pointDisturbed_iff uses, Bool.not_eq_true]
  rcases sec.takeCounts_cases none src v with ⟨disturbed, _⟩ | ⟨_, _, notice, _⟩ | ⟨undisturbed, _, point, counts⟩ |
    ⟨undisturbed, _, unmoved, counts⟩
  · obtain ⟨terms, e⟩ := s.evaluateSection_of_disturbed none src disturbed
    have terms' := State.evaluateSection_terms view none sec
    rw [e] at terms' ⊢
    exact .inl ⟨disturbed, congrArg (fun l => ({ sec with terms := l } : Section)) terms'⟩
  · cases notice
  · exact .inr (.inl ⟨undisturbed, point, disturbs undisturbed counts⟩)
  · rcases sec.applyNet_cases (sec.netContribution src v) with ⟨none, _⟩ | ⟨b, balance, ⟨low, e⟩ | ⟨high, e⟩ |
      ⟨b', sum, bound, e⟩⟩
    · exact absurd (shape.balance.1 none) undisturbed
    · exact .inr (.inr ⟨b, balance, unmoved, .inl ⟨low, disturbs undisturbed (counts.trans e)⟩⟩)
    · exact .inr (.inr ⟨b, balance, unmoved, .inr (.inl ⟨high, disturbs undisturbed (counts.trans e)⟩)⟩)
    · refine .inr (.inr ⟨b, balance, unmoved, .inr (.inr ⟨b', sum, bound, ?_⟩)⟩)
      rw [evaluated, Section.takeEvent, counts, e]
      rfl

/-! ### The outcome of each state (R120, R121, R123, R125 to R127, R141) -/

/-- A term is quiet by its source, so sections with one list of sources are quiet alike. -/
theorem State.allQuiet_congr (s : State) {before after : Section}
    (sources : after.terms.map Term.source = before.terms.map Term.source) : s.allQuiet after = s.allQuiet before := by
  have by_sources (sec : Section) : s.allQuiet sec =
      (sec.terms.map Term.source).all fun src => (s.source src).elim false SourceView.quiet := by
    rw [List.all_map]
    refine congrArg (List.all sec.terms) (funext fun t => ?_)
    unfold State.termQuiet
    simp only [Function.comp_apply]
    cases s.source t.source <;> rfl
  rw [by_sources, by_sources, sources]

/-- Where every term is quiet, the source of one shows it so. -/
theorem State.quiet_of_allQuiet {s : State} {src : TermSource} {v : SourceView} {sec : Section}
    (allQuiet : s.allQuiet sec = true) (uses : sec.uses src = true) (view : s.source src = some v) :
    v.quiet = true := by
  obtain ⟨t, mem, rfl⟩ := Section.uses_iff.1 uses
  obtain ⟨w, view', quiet⟩ := State.termQuiet_iff_source.1 (List.all_eq_true.1 allQuiet t mem)
  obtain rfl := Option.some.inj (view'.symm.trans view)
  exact quiet

/-- The settle-entry test, in words of R125, of a section that is OCCUPIED or PROVING. -/
theorem State.settleTest_eq {s : State} {sec : Section} {b : Nat} (balance : sec.balance = some b) {c : Prop}
    [Decidable c] (meets : c ↔ b = 0 ∧ (sec.state = .occupied ∨ (sec.state = .proving ∧ sec.swept = true)) ∧
      sec.holdOff.running = false ∧ s.allQuiet sec = true) :
    s.settleTest sec = if c then settled sec else sec := by
  have test : s.meetsSettleEntry sec = true ↔ c := by
    rw [s.meetsSettleEntry_iff, meets, balance, Option.some.injEq]
    tauto
  unfold State.settleTest
  rw [settled_eq]
  exact if_congr test rfl rfl

section Outcomes

variable {s : State} {src : TermSource} {v : SourceView} {sec : Section} {b : Nat}

@[simp] theorem Section.moves_state : (sec.moves src v b).state = sec.state := rfl

/-- An event that leaves the balance where it was leaves the section to its terms. -/
theorem Section.moves_same (balance : sec.balance = some b) : sec.moves src v b = followed src v sec := by
  unfold Section.moves
  rw [← balance]
  rfl

theorem Section.moves_sources : (sec.moves src v b).terms.map Term.source = sec.terms.map Term.source := by
  change (sec.terms.map (Term.follow src v)).map Term.source = _
  simp [Function.comp_def]

theorem Section.stateOutcome_settling (settling : sec.state = .settling) (net : Int) (head : Head) :
    sec.stateOutcome net head = if 0 < net ∨ head = .wheelOn then sec.closeRound else sec := by
  unfold Section.stateOutcome
  rw [settling]

theorem Section.stateOutcome_clear (clear : sec.state = .clear) (net : Int) (head : Head) :
    sec.stateOutcome net head = if 0 < net ∨ head = .wheelOn then { sec with state := .occupied } else sec := by
  unfold Section.stateOutcome
  rw [clear]

theorem Section.stateOutcome_occupied (occupied : sec.state = .occupied) (net : Int) (head : Head) :
    sec.stateOutcome net head = sec := by
  unfold Section.stateOutcome
  rw [occupied]

theorem Section.stateOutcome_proving (proving : sec.state = .proving) (balance : sec.balance = some b) (net : Int)
    (head : Head) : sec.stateOutcome net head = { sec with swept := sec.swept || decide (1 ≤ b) } := by
  unfold Section.stateOutcome
  rw [proving, balance]
  dsimp only [Option.getD_some]
  split
  · rename_i positive
    rw [decide_eq_true positive, Bool.or_true, ← balance, ← proving]
  · rename_i zero
    rw [decide_eq_false zero, Bool.or_false, ← balance, ← proving]

end Outcomes

/-- An event that disturbs by no point, by what it makes of the balance (R112). -/
theorem State.evaluateSection_balance {s : State} {src : TermSource} {v : SourceView} {sec : Section} {b : Nat}
    (view : s.source src = some v) (shape : SectionShape sec) (uses : sec.uses src = true)
    (balance : sec.balance = some b) (unmoved : ¬ moved src v sec) :
    (b + netOf src v sec < 0 → s.evaluateSection none src sec = disturbedBy .underflow src v sec) ∧
      (1023 < b + netOf src v sec → s.evaluateSection none src sec = disturbedBy .overflow src v sec) ∧
      ∀ b' : Nat, b' = b + netOf src v sec → b' ≤ 1023 → s.evaluateSection none src sec =
        s.settleTest ((sec.moves src v b').stateOutcome (netOf src v sec) v.head) := by
  rcases State.evaluateSection_cases view shape uses with ⟨disturbed, _⟩ | ⟨_, isMoved, _⟩ | ⟨b₀, balance₀, _, counted⟩
  · exact nomatch (shape.balance.2 disturbed).symm.trans balance
  · exact absurd isMoved unmoved
  · obtain rfl := Option.some.inj (balance₀.symm.trans balance)
    rcases counted with ⟨low, e⟩ | ⟨high, e⟩ | ⟨b₁, sum, bound, e⟩
    · exact ⟨fun _ => e, fun high => by omega, fun b' sum => by omega⟩
    · exact ⟨fun low => by omega, fun _ => e, fun b' sum bound => by omega⟩
    · refine ⟨fun low => by omega, fun high => by omega, fun b' sum' _ => ?_⟩
      obtain rfl : b₁ = b' := by omega
      exact e

/-- Settles O43: by the case of the evaluation, and where the balance moves by the state the section is in. -/
theorem termEventOutcomes : Obligations.TermEventOutcomes := by
  intro s src v sec b view shape uses
  have cases' := State.evaluateSection_cases view shape uses
  refine ⟨fun disturbed => ?_, fun undisturbed isMoved => ?_, fun balance unmoved => ?_⟩
  · rcases cases' with ⟨_, e⟩ | ⟨undisturbed, _⟩ | ⟨b, balance, _⟩
    · exact e
    · exact absurd disturbed undisturbed
    · exact nomatch (shape.balance.2 disturbed).symm.trans balance
  · rcases cases' with ⟨disturbed, _⟩ | ⟨_, _, e⟩ | ⟨_, _, unmoved, _⟩
    · exact absurd disturbed undisturbed
    · exact e
    · exact absurd isMoved unmoved
  obtain ⟨low, high, within⟩ := State.evaluateSection_balance view shape uses balance unmoved
  refine ⟨low, high, fun b' sum bound => ?_⟩
  have e := within b' sum bound
  have same (still : netOf src v sec = 0) : sec.moves src v b' = followed src v sec :=
    Section.moves_same (by rw [balance]; exact congrArg some (by omega))
  have quietness : s.allQuiet (sec.moves src v b') = s.allQuiet sec := s.allQuiet_congr Section.moves_sources
  have state {x : SectionState} (held : sec.state = x) : (sec.moves src v b').state = x := held
  refine ⟨fun settling inward => ?_, fun settling still free => ?_, fun clear inward => ?_,
    fun clear still free => ?_, fun occupied => ?_, fun proving => ?_⟩
  · rw [e, Section.stateOutcome_settling (state settling), if_pos inward]
    refine (State.settleTest_eq (b := b') rfl (c := False) ?_).trans (if_neg id)
    exact iff_of_false id fun ⟨_, _, off, _⟩ => nomatch off
  · rw [e, Section.stateOutcome_settling (state settling), if_neg (by rw [still, free]; decide), same still]
    exact s.settleTest_of_state (.inr (.inl settling))
  · rw [e, Section.stateOutcome_clear (state clear), if_pos inward]
    refine (State.settleTest_eq (b := b') rfl (c := False) ?_).trans (if_neg id)
    refine iff_of_false id fun ⟨empty, _, _, allQuiet⟩ => ?_
    obtain ⟨_, free, _⟩ := SourceView.quiet_iff.1 (State.quiet_of_allQuiet (quietness.symm.trans allQuiet) uses view)
    rcases inward with positive | wheelOn
    · have zero := Option.some.inj (balance.symm.trans (shape.settled (.inr clear)))
      omega
    · exact nomatch free.symm.trans wheelOn
  · rw [e, Section.stateOutcome_clear (state clear), if_neg (by rw [still, free]; decide), same still]
    exact s.settleTest_of_state (.inr (.inr clear))
  · rw [e, Section.stateOutcome_occupied (state occupied)]
    refine State.settleTest_eq rfl ?_
    rw [quietness, state occupied]
    simp [Section.moves, followed]
  · rw [e, Section.stateOutcome_proving (state proving) (b := b') rfl]
    refine State.settleTest_eq rfl ?_
    have off : sec.holdOff.running = false := Bool.eq_false_iff.2 fun on =>
      nomatch proving.symm.trans (shape.holdOff on)
    change _ ↔ b' = 0 ∧ (sec.state = .occupied ∨ sec.state = .proving ∧ (sec.swept || decide (1 ≤ b')) = true) ∧
      sec.holdOff.running = false ∧ s.allQuiet (sec.moves src v b') = true
    rw [quietness, proving, off]
    refine and_congr_right fun empty => ?_
    simp [empty]

end Sys2Proof.Machine

namespace Sys2Proof.Machine

open Sys2Proof.Claims

/-! ### The shape of a section through every evaluation (R112, R115, R124, R126, R127, R131) -/

theorem Section.remotePositions_congr {before after : Section}
    (sources : after.terms.map Term.source = before.terms.map Term.source) :
    after.remotePositions = before.remotePositions := by
  have length : after.terms.length = before.terms.length := by simpa using congrArg List.length sources
  have remote (sec : Section) (i : Nat) : (sec.terms[i]?.map Term.isRemote).getD false =
      (((sec.terms.map Term.source)[i]?).map fun src => match src with
        | .localPoint _ => false
        | .mirror _ => true).getD false := by
    rw [List.getElem?_map, Option.map_map]
    rfl
  unfold Section.remotePositions
  simp only [length, remote, sources]

theorem disturbedBy_eq (cause : DisturbanceCause) (src : TermSource) (v : SourceView) (sec : Section) :
    disturbedBy cause src v sec = followed src v (sec.disturb cause) := by
  unfold disturbedBy Section.disturb
  split <;> rfl

theorem followed_sources (src : TermSource) (v : SourceView) (sec : Section) :
    (followed src v sec).terms.map Term.source = sec.terms.map Term.source := by
  change (sec.terms.map (Term.follow src v)).map Term.source = _
  simp [Function.comp_def]

namespace SectionShape

variable {sec : Section}

theorem cause_none (shape : SectionShape sec) (undisturbed : sec.state ≠ .disturbed) : sec.cause = none :=
  Option.not_isSome_iff_eq_none.1 fun some => undisturbed (shape.cause.1 some)

theorem round_none (shape : SectionShape sec) (unsettled : sec.state ≠ .settling) : sec.round = none :=
  Option.not_isSome_iff_eq_none.1 fun some => unsettled (shape.round.1 some)

/-- A section without a round, that counts: OCCUPIED, PROVING, or CLEAR at balance 0. -/
theorem counting {b : Nat} (undisturbed : sec.state ≠ .disturbed) (unsettled : sec.state ≠ .settling)
    (balance : sec.balance = some b) (bound : b ≤ 1023) (empty : sec.state = .clear → b = 0) (cause : sec.cause = none)
    (round : sec.round = none) (holdOff : sec.holdOff.running = true → sec.state = .occupied)
    (terms : 1 ≤ sec.terms.length ∧ sec.terms.length ≤ 4) : SectionShape sec where
  balance := by simp [balance, undisturbed]
  bound := by
    rw [balance]
    rintro _ ⟨⟩
    exact bound
  cause := by simp [cause, undisturbed]
  round := by simp [round, unsettled]
  settled := by
    rintro (settling | clear)
    · exact absurd settling unsettled
    · rw [balance, empty clear]
  holdOff := holdOff
  awaited := by
    rw [round]
    exact fun _ none => nomatch none
  terms := terms

/-- Everything but the terms of the section, of which the sources alone count. -/
theorem of_fields {other : Section} (shape : SectionShape sec)
    (sources : other.terms.map Term.source = sec.terms.map Term.source) (state : other.state = sec.state)
    (balance : other.balance = sec.balance) (cause : other.cause = sec.cause) (round : other.round = sec.round)
    (holdOff : other.holdOff = sec.holdOff) : SectionShape other where
  balance := by rw [balance, state]; exact shape.balance
  bound := by rw [balance]; exact shape.bound
  cause := by rw [cause, state]; exact shape.cause
  round := by rw [round, state]; exact shape.round
  settled := by rw [balance, state]; exact shape.settled
  holdOff := by rw [holdOff, state]; exact shape.holdOff
  awaited := by rw [round, Section.remotePositions_congr sources]; exact shape.awaited
  terms := by
    have length : other.terms.length = sec.terms.length := by simpa using congrArg List.length sources
    rw [length]
    exact shape.terms

theorem followed (shape : SectionShape sec) (src : TermSource) (v : SourceView) :
    SectionShape (followed src v sec) :=
  shape.of_fields (followed_sources src v sec) rfl rfl rfl rfl rfl

/-- A DISTURBED section has no balance, no round and no hold-off (R115). -/
theorem disturb (shape : SectionShape sec) (cause : DisturbanceCause) : SectionShape (sec.disturb cause) := by
  rcases sec.disturb_cases cause with ⟨_, e⟩ | ⟨_, e⟩ <;> rw [e]
  · exact shape
  · exact {
      balance := iff_of_true rfl rfl
      bound := fun _ none => nomatch none
      cause := iff_of_true rfl rfl
      round := iff_of_false Bool.false_ne_true SectionState.noConfusion
      settled := fun either => by rcases either with e | e <;> cases e
      holdOff := fun on => nomatch on
      awaited := fun _ none => nomatch none
      terms := shape.terms }

theorem disturbedBy (shape : SectionShape sec) (cause : DisturbanceCause) (src : TermSource) (v : SourceView) :
    SectionShape (disturbedBy cause src v sec) := by
  rw [disturbedBy_eq]
  exact (shape.disturb cause).followed src v

/-- Entry to SETTLING or CLEAR, of an empty section without a hold-off (R132, R133). -/
theorem enterSettling (shape : SectionShape sec) (state : sec.state = .occupied ∨ sec.state = .proving)
    (balance : sec.balance = some 0) (holdOff : sec.holdOff.running = false) : SectionShape sec.enterSettling := by
  have undisturbed : sec.state ≠ .disturbed := by rcases state with e | e <;> rw [e] <;> decide
  have unsettled : sec.state ≠ .settling := by rcases state with e | e <;> rw [e] <;> decide
  have cause := shape.cause_none undisturbed
  rcases sec.enterSettling_cases with ⟨_, e⟩ | ⟨remote, e⟩ <;> rw [e]
  · exact counting nofun nofun balance (Nat.zero_le _) (fun _ => rfl) cause (shape.round_none unsettled)
      (fun on => nomatch holdOff.symm.trans on) shape.terms
  · exact {
      balance := iff_of_false (fun none => nomatch balance.symm.trans none) SectionState.noConfusion
      bound := shape.bound
      cause := iff_of_false (fun some => nomatch cause ▸ some) SectionState.noConfusion
      round := iff_of_true rfl rfl
      settled := fun _ => balance
      holdOff := fun on => nomatch holdOff.symm.trans on
      awaited := by
        rintro _ ⟨⟩
        exact ⟨Section.remotePositions_ne_nil remote, fun _ mem => mem, rfl⟩
      terms := shape.terms }

theorem settleTest (shape : SectionShape sec) (s : State) : SectionShape (s.settleTest sec) := by
  rcases s.settleTest_cases sec with ⟨meets, e⟩ | ⟨_, e⟩ <;> rw [e]
  · obtain ⟨state, holdOff, balance, _⟩ := (s.meetsSettleEntry_iff sec).1 meets
    exact shape.enterSettling (state.imp id And.left) balance holdOff
  · exact shape

/-- A closed round leaves the section OCCUPIED with its hold-off (R140). -/
theorem closeRound {b : Nat} (shape : SectionShape sec) (settling : sec.state = .settling)
    (balance : sec.balance = some b) : SectionShape sec.closeRound :=
  counting nofun nofun balance (shape.bound b balance) nofun (shape.cause_none (by rw [settling]; decide)) rfl
    (fun _ => rfl) shape.terms

/-- The outcome of the state, after an event that has moved the balance within its bounds (R112, R126, R127). -/
theorem moves {b b' : Nat} {net : Int} (shape : SectionShape sec) (balance : sec.balance = some b)
    (sum : (b' : Int) = b + net) (bound : b' ≤ 1023) (src : TermSource) (v : SourceView) (head : Head) :
    SectionShape ((sec.moves src v b').stateOutcome net head) := by
  have undisturbed : sec.state ≠ .disturbed := fun disturbed => nomatch (shape.balance.2 disturbed).symm.trans balance
  have cause := shape.cause_none undisturbed
  have terms : 1 ≤ (sec.moves src v b').terms.length ∧ (sec.moves src v b').terms.length ≤ 4 := by
    change 1 ≤ (sec.terms.map (Term.follow src v)).length ∧ (sec.terms.map (Term.follow src v)).length ≤ 4
    rw [List.length_map]
    exact shape.terms
  have same (settled : sec.state = .settling ∨ sec.state = .clear) (still : ¬ (0 < net ∨ head = .wheelOn)) :
      SectionShape (sec.moves src v b') := by
    have zero := Option.some.inj (balance.symm.trans (shape.settled settled))
    obtain ⟨notInward, _⟩ := not_or.1 still
    rw [Section.moves_same (by rw [balance]; exact congrArg some (by omega))]
    exact shape.followed src v
  cases state : sec.state with
  | disturbed => exact absurd state undisturbed
  | occupied =>
    rw [Section.stateOutcome_occupied (Section.moves_state.trans state)]
    exact counting undisturbed (by rw [Section.moves_state, state]; decide) rfl bound
      (fun clear => nomatch state.symm.trans clear) cause (shape.round_none (by rw [state]; decide)) shape.holdOff terms
  | proving =>
    rw [Section.stateOutcome_proving (Section.moves_state.trans state) rfl]
    exact counting undisturbed (by rw [Section.moves_state, state]; decide) rfl bound
      (fun clear => nomatch state.symm.trans clear) cause (shape.round_none (by rw [state]; decide)) shape.holdOff terms
  | settling =>
    rw [Section.stateOutcome_settling (Section.moves_state.trans state)]
    split
    · exact counting nofun nofun rfl bound nofun cause rfl (fun _ => rfl) terms
    · exact same (.inl state) ‹_›
  | clear =>
    rw [Section.stateOutcome_clear (Section.moves_state.trans state)]
    split
    · exact counting nofun nofun rfl bound nofun cause (shape.round_none (by rw [state]; decide)) (fun _ => rfl) terms
    · exact same (.inr state) ‹_›

/-- An event that reaches the section (R109). -/
theorem evaluateSection (shape : SectionShape sec) (s : State) (notice : Option DisturbanceCause) {src : TermSource}
    (uses : sec.uses src = true) : SectionShape (s.evaluateSection notice src sec) := by
  cases view : s.source src with
  | none =>
    rw [State.evaluateSection_absent view]
    exact shape
  | some v =>
    cases notice with
    | some cause =>
      rw [State.evaluateSection_disturbing view]
      exact shape.disturbedBy cause src v
    | none =>
      rcases State.evaluateSection_cases view shape uses with ⟨_, e⟩ | ⟨_, _, e⟩ | ⟨b, balance, _, ⟨_, e⟩ | ⟨_, e⟩ |
        ⟨b', sum, bound, e⟩⟩ <;> rw [e]
      · exact shape.followed src v
      · exact shape.disturbedBy _ src v
      · exact shape.disturbedBy _ src v
      · exact shape.disturbedBy _ src v
      · exact (shape.moves balance sum bound src v _).settleTest s

theorem expireDeadline (shape : SectionShape sec) : SectionShape sec.expireDeadline := by
  rcases sec.expireDeadline_cases with ⟨_, e⟩ | ⟨round, e⟩ <;> rw [e]
  · exact shape
  · have settling := shape.round.1 round
    exact shape.closeRound settling (shape.settled (.inl settling))

theorem expireHoldOff (shape : SectionShape sec) (s : State) : SectionShape (s.expireHoldOff sec) := by
  refine SectionShape.settleTest ?_ s
  exact { shape with
    holdOff := fun on => nomatch on
    awaited := shape.awaited }

/-- A counting answer takes terms out of the unanswered set, or completes the round (R137 to R139). -/
theorem takeAnswer (shape : SectionShape sec) (s : State) (tag : Serial) (station : Station) (p : PointIndex)
    (mark : Bool) : SectionShape (s.takeAnswer tag station p mark sec) := by
  rcases s.takeAnswer_cases tag station p mark sec with e | ⟨r, round, _, ⟨_, e⟩ | ⟨some, e⟩⟩ <;> rw [e]
  · exact shape
  · have settling := shape.round.1 (by rw [round]; rfl)
    have empty := shape.settled (.inl settling)
    exact counting nofun nofun empty (Nat.zero_le _) (fun _ => rfl) (shape.cause_none (by rw [settling]; decide)) rfl
      (fun on => nomatch settling.symm.trans (shape.holdOff on)) shape.terms
  · have settling := shape.round.1 (by rw [round]; rfl)
    obtain ⟨_, positions, running⟩ := shape.awaited r round
    exact { shape with
      round := iff_of_true rfl settling
      awaited := by
        rintro _ ⟨⟩
        exact ⟨some, fun i mem => positions i (List.mem_of_mem_filter mem), running⟩ }

/-- A DISTURBED section takes an accepted restore to PROVING at balance 0 (R160, R161). -/
theorem restoredSection (shape : SectionShape sec) (disturbed : sec.state = .disturbed) (s : State) :
    SectionShape (s.restoredSection sec) := by
  refine counting nofun nofun rfl (Nat.zero_le _) nofun rfl (shape.round_none (by rw [disturbed]; decide))
    (fun on => nomatch disturbed.symm.trans (shape.holdOff on)) ?_
  change 1 ≤ (sec.terms.map s.rebaseTerm).length ∧ (sec.terms.map s.rebaseTerm).length ≤ 4
  rw [List.length_map]
  exact shape.terms

theorem acceptRestore (shape : SectionShape sec) (disturbed : sec.state = .disturbed) (s : State) (direct : Bool) :
    SectionShape (s.acceptRestore direct sec) := by
  have restored := shape.restoredSection disturbed s
  cases direct with
  | false =>
    rw [State.acceptRestore_prove]
    exact restored
  | true => exact restored.enterSettling (.inr rfl) rfl (Bool.eq_false_iff.2 fun on =>
      nomatch disturbed.symm.trans (shape.holdOff on))

/-- The restore record is no part of the shape. -/
theorem restore_recorded (shape : SectionShape sec) (serial : Option Serial) (outcome : RestoreOutcome) :
    SectionShape { sec with restoreSerial := serial, restoreOutcome := outcome } :=
  shape.of_fields rfl rfl rfl rfl rfl rfl

end SectionShape

/-- A command is accepted of a DISTURBED section with quiet terms alone (R152, R159). -/
theorem State.restoreVerdict_accepted {s : State} {direct : Bool} {sec : Section}
    (accepted : s.restoreVerdict direct sec = .accepted) :
    sec.state = .disturbed ∧ (direct = true → sec.direct = true) ∧ s.allQuiet sec = true := by
  unfold State.restoreVerdict at accepted
  split at accepted
  · cases accepted
  · split at accepted
    · cases accepted
    · split at accepted
      · cases accepted
      · rename_i disturbed permitted quiet
        exact ⟨not_not.1 disturbed, by simpa using permitted, by simpa using quiet⟩

namespace SectionShape

variable {sec : Section}

theorem takeRestore (shape : SectionShape sec) (s : State) (direct : Bool) (serial : Serial) :
    SectionShape (s.takeRestore direct serial sec) := by
  rcases s.takeRestore_cases direct serial sec with ⟨_, e⟩ | ⟨_, _, e⟩ | ⟨_, accepted, e⟩ <;> rw [e]
  · exact shape
  · exact shape.restore_recorded _ _
  · exact (shape.acceptRestore (State.restoreVerdict_accepted accepted).1 s direct).restore_recorded _ _

theorem tick (shape : SectionShape sec) : SectionShape sec.tick := by
  have holdOff : (sec.holdOff.tick Config.holdOffTime).running = true → sec.state = .occupied := by
    rw [Timer.tick_running]
    exact shape.holdOff
  refine { shape with round := ?_, holdOff := holdOff, awaited := ?_ }
  · exact (Bool.eq_iff_iff.1 Option.isSome_map).trans shape.round
  · intro r ticked
    obtain ⟨before, round, rfl⟩ := Option.map_eq_some_iff.1 ticked
    obtain ⟨some, positions, running⟩ := shape.awaited before round
    exact ⟨some, positions, (Timer.tick_running _ _).trans running⟩

end SectionShape

end Sys2Proof.Machine

namespace Sys2Proof.Machine

open Sys2Proof.Claims

/-! ### The balance relation of one section (R114) -/

/-- The balance relation of a section. -/
def Section.agrees (sec : Section) : Prop := ∀ b ∈ sec.balance, BitVec.ofNat 16 b = (sec.terms.map Term.carried).sum

/-- A count difference is the difference of the counts, modulo 65536 (R111). -/
theorem ofInt_countDelta (now before : Count) : BitVec.ofInt 16 (countDelta now before : Int) = now - before := by
  rw [BitVec.ofInt_natCast, countDelta, BitVec.ofNat_toNat, BitVec.setWidth_eq]

/-- What a term has carried grows by its contribution (R111, R114). -/
theorem Term.follow_carried (src : TermSource) (v : SourceView) (t : Term) :
    (t.follow src v).carried = t.carried + BitVec.ofInt 16 (if t.source = src then t.contribution v else 0) := by
  unfold Term.follow
  split
  · unfold Term.carried Term.contribution
    dsimp only
    cases t.sense <;> dsimp only <;>
      rw [Int.sub_eq_add_neg, BitVec.ofInt_add, BitVec.ofInt_neg, ofInt_countDelta, ofInt_countDelta] <;> ring
  · simp

theorem Section.follow_carried (src : TermSource) (v : SourceView) (sec : Section) :
    ((sec.terms.map (Term.follow src v)).map Term.carried).sum =
      (sec.terms.map Term.carried).sum + BitVec.ofInt 16 (sec.netContribution src v) := by
  unfold Section.netContribution
  induction sec.terms with
  | nil => rfl
  | cons t terms ih =>
    simp only [List.map_cons, List.sum_cons, ih, Term.follow_carried, BitVec.ofInt_add]
    ring

namespace Section.agrees

variable {sec : Section}

theorem of_balance_none (none : sec.balance = none) : sec.agrees := fun _ held => nomatch none.symm.trans held

theorem of_fields {other : Section} (agrees : sec.agrees) (balance : other.balance = sec.balance)
    (terms : other.terms = sec.terms) : other.agrees := by
  unfold Section.agrees
  rw [balance, terms]
  exact agrees

theorem settleTest (agrees : sec.agrees) (s : State) : (s.settleTest sec).agrees :=
  agrees.of_fields (s.settleTest_balance sec) (s.settleTest_terms sec)

/-- A net contribution within the bounds moves the balance by as much as the terms have carried (R112, R114). -/
theorem moves {b b' : Nat} {src : TermSource} {v : SourceView} (agrees : sec.agrees) (balance : sec.balance = some b)
    (sum : (b' : Int) = b + netOf src v sec) : (sec.moves src v b').agrees := by
  rintro _ ⟨⟩
  change BitVec.ofNat 16 b' = ((sec.terms.map (Term.follow src v)).map Term.carried).sum
  rw [Section.follow_carried, ← agrees b balance, ← netOf_eq, ← BitVec.ofInt_natCast, sum, BitVec.ofInt_add,
    BitVec.ofInt_natCast]

theorem evaluateSection (agrees : sec.agrees) (shape : SectionShape sec) (s : State)
    (notice : Option DisturbanceCause) {src : TermSource} (uses : sec.uses src = true) :
    (s.evaluateSection notice src sec).agrees := by
  have disturbed (cause : DisturbanceCause) (v : SourceView) : (disturbedBy cause src v sec).agrees :=
    of_balance_none ((shape.disturbedBy cause src v).balance.2 (disturbedBy_state ..))
  cases view : s.source src with
  | none =>
    rw [State.evaluateSection_absent view]
    exact agrees
  | some v =>
    cases notice with
    | some cause =>
      rw [State.evaluateSection_disturbing view]
      exact disturbed cause v
    | none =>
      rcases State.evaluateSection_cases view shape uses with ⟨state, e⟩ | ⟨_, _, e⟩ | ⟨b, balance, _, ⟨_, e⟩ | ⟨_, e⟩ |
        ⟨b', sum, _, e⟩⟩ <;> rw [e]
      · exact of_balance_none (shape.balance.2 state)
      · exact disturbed _ v
      · exact disturbed _ v
      · exact disturbed _ v
      · exact ((agrees.moves balance sum).of_fields (Section.stateOutcome_balance ..)
          (Section.stateOutcome_terms ..)).settleTest s

/-- Terms rebased on their sources have carried nothing, which is the balance (R160). -/
theorem restoredSection {s : State} (quiet : s.allQuiet sec = true) : (s.restoredSection sec).agrees := by
  rintro _ ⟨⟩
  symm
  refine List.sum_eq_zero fun x mem => ?_
  obtain ⟨_, rebased, rfl⟩ := List.mem_map.1 mem
  obtain ⟨t, term, rfl⟩ := List.mem_map.1 rebased
  obtain ⟨v, view, _⟩ := State.termQuiet_iff_source.1 (List.all_eq_true.1 quiet t term)
  unfold State.rebaseTerm Term.carried
  rw [view]
  cases t.sense <;> simp

theorem expireDeadline (agrees : sec.agrees) : sec.expireDeadline.agrees := by
  rcases sec.expireDeadline_cases with ⟨_, e⟩ | ⟨_, e⟩ <;> rw [e]
  · exact agrees
  · exact agrees.of_fields rfl rfl

theorem expireHoldOff (agrees : sec.agrees) (s : State) : (s.expireHoldOff sec).agrees :=
  (agrees.of_fields (other := { sec with holdOff := .stopped }) rfl rfl).settleTest s

theorem takeAnswer (agrees : sec.agrees) (s : State) (tag : Serial) (station : Station) (p : PointIndex)
    (mark : Bool) : (s.takeAnswer tag station p mark sec).agrees := by
  rcases s.takeAnswer_cases tag station p mark sec with e | ⟨r, _, _, ⟨_, e⟩ | ⟨_, e⟩⟩ <;> rw [e]
  · exact agrees
  · exact agrees.of_fields rfl rfl
  · exact agrees.of_fields rfl rfl

theorem acceptRestore {s : State} (quiet : s.allQuiet sec = true) (direct : Bool) :
    (s.acceptRestore direct sec).agrees := by
  have restored := restoredSection quiet
  cases direct with
  | false =>
    rw [State.acceptRestore_prove]
    exact restored
  | true => exact restored.of_fields (Section.enterSettling_balance _) (Section.enterSettling_terms _)

theorem takeRestore (agrees : sec.agrees) (s : State) (direct : Bool) (serial : Serial) :
    (s.takeRestore direct serial sec).agrees := by
  rcases s.takeRestore_cases direct serial sec with ⟨_, e⟩ | ⟨_, _, e⟩ | ⟨_, accepted, e⟩ <;> rw [e]
  · exact agrees
  · exact agrees.of_fields rfl rfl
  · exact (acceptRestore (State.restoreVerdict_accepted accepted).2.2 direct).of_fields rfl rfl

end Section.agrees

/-! ### A section on current sources (R113, R116, R117, R126, R127)

While the change of a source is on its way to the section, the terms on that source are late. -/

/-- A section that is not DISTURBED rests on current sources, and one that is SETTLING or CLEAR on quiet ones, but for
the terms on late sources. -/
structure State.restsBut (s : State) (late : TermSource → Prop) (sec : Section) : Prop where
  current : sec.state ≠ .disturbed → ∀ t ∈ sec.terms, ¬ late t.source → s.termCurrent t
  quiet : sec.state = .settling ∨ sec.state = .clear → ∀ t ∈ sec.terms, ¬ late t.source → s.termQuiet t = true

/-- What an evaluation makes of late sources: the reached one is late no more. -/
def lateExcept (late : TermSource → Prop) (src : TermSource) : TermSource → Prop := fun x => late x ∧ x ≠ src

namespace State.restsBut

variable {s : State} {late : TermSource → Prop} {sec : Section}

theorem of_disturbed (disturbed : sec.state = .disturbed) : s.restsBut late sec where
  current := fun undisturbed => absurd disturbed undisturbed
  quiet := fun either => by rcases either with e | e <;> cases disturbed.symm.trans e

/-- Terms and state are all that matters. -/
theorem of_fields {other : Section} (rests : s.restsBut late sec) (state : other.state = sec.state)
    (terms : other.terms = sec.terms) : s.restsBut late other where
  current := by rw [state, terms]; exact rests.current
  quiet := by rw [state, terms]; exact rests.quiet

/-- A section that neither was DISTURBED nor becomes SETTLING or CLEAR. -/
theorem of_counting {other : Section} (rests : s.restsBut late sec) (undisturbed : sec.state ≠ .disturbed)
    (unsettled : ¬ (other.state = .settling ∨ other.state = .clear)) (terms : other.terms = sec.terms) :
    s.restsBut late other where
  current := fun _ => by rw [terms]; exact rests.current undisturbed
  quiet := fun settled => absurd settled unsettled

theorem mono {late' : TermSource → Prop} (rests : s.restsBut late sec)
    (less : ∀ t ∈ sec.terms, late t.source → late' t.source) : s.restsBut late' sec where
  current := fun undisturbed t mem timely => rests.current undisturbed t mem fun now => timely (less t mem now)
  quiet := fun settled t mem timely => rests.quiet settled t mem fun now => timely (less t mem now)

theorem of_allQuiet (current : ∀ t ∈ sec.terms, ¬ late t.source → s.termCurrent t) (quiet : s.allQuiet sec = true) :
    s.restsBut late sec where
  current := fun _ => current
  quiet := fun _ t mem _ => List.all_eq_true.1 quiet t mem

theorem enterSettling (current : ∀ t ∈ sec.terms, ¬ late t.source → s.termCurrent t) (quiet : s.allQuiet sec = true) :
    s.restsBut late sec.enterSettling :=
  of_allQuiet (by rw [sec.enterSettling_terms]; exact current) (by
    rw [s.allQuiet_congr (congrArg (List.map Term.source) sec.enterSettling_terms)]
    exact quiet)

theorem settleTest (rests : s.restsBut late sec) : s.restsBut late (s.settleTest sec) := by
  rcases s.settleTest_cases sec with ⟨meets, e⟩ | ⟨_, e⟩ <;> rw [e]
  · obtain ⟨state, _, _, quiet⟩ := (s.meetsSettleEntry_iff sec).1 meets
    refine enterSettling (rests.current ?_) quiet
    rcases state with state | ⟨state, _⟩ <;> rw [state] <;> decide
  · exact rests

theorem mem_moves {src : TermSource} {v : SourceView} {b : Nat} {u : Term} (mem : u ∈ (sec.moves src v b).terms) :
    ∃ t ∈ sec.terms, t.follow src v = u := List.mem_map.1 mem

/-- The reached terms follow a NORMAL source, and a FREE one where the section stays SETTLING or CLEAR (R109, R141). -/
theorem moves {b b' : Nat} {src : TermSource} {v : SourceView} (rests : s.restsBut late sec)
    (view : s.source src = some v) (fresh : v.fresh = true) (balance : sec.balance = some b)
    (shape : SectionShape sec) (unmoved : ¬ moved src v sec) :
    s.restsBut (lateExcept late src) ((sec.moves src v b').stateOutcome (netOf src v sec) v.head) := by
  have undisturbed : sec.state ≠ .disturbed := fun disturbed => nomatch (shape.balance.2 disturbed).symm.trans balance
  have normal : v.condition = .normal := by
    by_contra abnormal
    exact unmoved (.inl abnormal)
  have current : ∀ u ∈ (sec.moves src v b').terms, ¬ lateExcept late src u.source → s.termCurrent u := by
    intro u mem timely
    obtain ⟨t, term, rfl⟩ := mem_moves mem
    rw [Term.follow_source] at timely
    unfold Term.follow
    split
    · rename_i reached
      exact ⟨v, reached.symm ▸ view, fresh, normal, rfl, rfl, rfl⟩
    · rename_i other
      exact rests.current undisturbed t term fun now => timely ⟨now, other⟩
  have quiet (settled : sec.state = .settling ∨ sec.state = .clear)
      (still : ¬ (0 < netOf src v sec ∨ v.head = .wheelOn)) :
      ∀ u ∈ (sec.moves src v b').terms, ¬ lateExcept late src u.source → s.termQuiet u = true := by
    intro u mem timely
    obtain ⟨t, term, rfl⟩ := mem_moves mem
    rw [Term.follow_source] at timely
    rw [State.termQuiet_iff_source, Term.follow_source]
    by_cases reached : t.source = src
    · have free : v.head = .free := by
        cases head : v.head with
        | free => rfl
        | wheelOn => exact absurd (.inr head) still
      exact ⟨v, reached ▸ view, SourceView.quiet_iff.2 ⟨normal, free, fresh⟩⟩
    · exact State.termQuiet_iff_source.1 (rests.quiet settled t term fun now => timely ⟨now, reached⟩)
  have counting {x : Section} (terms : x.terms = (sec.moves src v b').terms)
      (unsettled : ¬ (x.state = .settling ∨ x.state = .clear)) : s.restsBut (lateExcept late src) x :=
    ⟨fun _ => by rw [terms]; exact current, fun settled => absurd settled unsettled⟩
  cases state : sec.state with
  | disturbed => exact absurd state undisturbed
  | occupied =>
    rw [Section.stateOutcome_occupied (Section.moves_state.trans state)]
    exact counting rfl (by rw [Section.moves_state, state]; decide)
  | proving =>
    rw [Section.stateOutcome_proving (Section.moves_state.trans state) rfl]
    exact counting rfl (by change ¬ (sec.state = _ ∨ sec.state = _); rw [state]; decide)
  | settling =>
    rw [Section.stateOutcome_settling (Section.moves_state.trans state)]
    split
    · exact counting rfl nofun
    · exact ⟨fun _ => current, fun _ => quiet (.inl state) ‹_›⟩
  | clear =>
    rw [Section.stateOutcome_clear (Section.moves_state.trans state)]
    split
    · exact counting rfl nofun
    · exact ⟨fun _ => current, fun _ => quiet (.inr state) ‹_›⟩

/-- An event takes the section along with its source: it is current again, or DISTURBED (R113, R116, R117). -/
theorem evaluateSection {notice : Option DisturbanceCause} {src : TermSource} {v : SourceView}
    (rests : s.restsBut late sec) (shape : SectionShape sec) (view : s.source src = some v)
    (fresh : notice = none → v.fresh = true) (uses : sec.uses src = true) :
    s.restsBut (lateExcept late src) (s.evaluateSection notice src sec) := by
  cases notice with
  | some cause =>
    rw [State.evaluateSection_disturbing view]
    exact of_disturbed (disturbedBy_state ..)
  | none =>
    rcases State.evaluateSection_cases view shape uses with ⟨disturbed, e⟩ | ⟨_, _, e⟩ | ⟨b, balance, unmoved, ⟨_, e⟩ |
      ⟨_, e⟩ | ⟨b', _, _, e⟩⟩ <;> rw [e]
    · exact of_disturbed disturbed
    · exact of_disturbed (disturbedBy_state ..)
    · exact of_disturbed (disturbedBy_state ..)
    · exact of_disturbed (disturbedBy_state ..)
    · exact (rests.moves view (fresh rfl) balance shape unmoved).settleTest

theorem expireDeadline (rests : s.restsBut late sec) (shape : SectionShape sec) :
    s.restsBut late sec.expireDeadline := by
  rcases sec.expireDeadline_cases with ⟨_, e⟩ | ⟨round, e⟩ <;> rw [e]
  · exact rests
  · exact rests.of_counting (by rw [shape.round.1 round]; decide) nofun rfl

theorem expireHoldOff (rests : s.restsBut late sec) : s.restsBut late (s.expireHoldOff sec) :=
  (rests.of_fields (other := { sec with holdOff := .stopped }) rfl rfl).settleTest

theorem takeAnswer (rests : s.restsBut late sec) (shape : SectionShape sec) (tag : Serial) (station : Station)
    (p : PointIndex) (mark : Bool) : s.restsBut late (s.takeAnswer tag station p mark sec) := by
  rcases s.takeAnswer_cases tag station p mark sec with e | ⟨r, round, _, ⟨_, e⟩ | ⟨_, e⟩⟩ <;> rw [e]
  · exact rests
  · have settling := shape.round.1 (by rw [round]; rfl)
    exact ⟨fun _ => rests.current (by rw [settling]; decide), fun _ => rests.quiet (.inl settling)⟩
  · exact rests.of_fields rfl rfl

/-- A restored section rests on the sources it has been rebased on (R159, R160). -/
theorem acceptRestore (quiet : s.allQuiet sec = true) (direct : Bool) :
    s.restsBut late (s.acceptRestore direct sec) := by
  have sources : (s.restoredSection sec).terms.map Term.source = sec.terms.map Term.source :=
    congrArg Prod.snd (s.restoredSection_fixed sec)
  have current (u : Term) (mem : u ∈ (s.restoredSection sec).terms) : s.termCurrent u := by
    obtain ⟨t, term, rfl⟩ := List.mem_map.1 mem
    obtain ⟨v, view, quietView⟩ := State.termQuiet_iff_source.1 (List.all_eq_true.1 quiet t term)
    obtain ⟨normal, _, fresh⟩ := SourceView.quiet_iff.1 quietView
    refine ⟨v, by rw [State.rebaseTerm_source]; exact view, fresh, normal, ?_⟩
    unfold State.rebaseTerm
    rw [view]
    exact ⟨rfl, rfl, rfl⟩
  cases direct with
  | false =>
    rw [State.acceptRestore_prove]
    exact ⟨fun _ u mem _ => current u mem, nofun⟩
  | true =>
    refine enterSettling (fun u mem _ => current u mem) ?_
    rw [s.allQuiet_congr sources]
    exact quiet

theorem takeRestore (rests : s.restsBut late sec) (direct : Bool) (serial : Serial) :
    s.restsBut late (s.takeRestore direct serial sec) := by
  rcases s.takeRestore_cases direct serial sec with ⟨_, e⟩ | ⟨_, _, e⟩ | ⟨_, accepted, e⟩ <;> rw [e]
  · exact rests
  · exact rests.of_fields rfl rfl
  · exact (acceptRestore (State.restoreVerdict_accepted accepted).2.2 direct).of_fields rfl rfl

end State.restsBut

end Sys2Proof.Machine

namespace Sys2Proof.Machine

open Sys2Proof.Claims

/-! ### What an event makes of the sections (R108, R109, R124, R137, R143, R157)

An event reads new source values, takes their change to the sections that use them, and lets a section settle; its line
advances at a completion. -/

/-- A state that differs in nothing the sections rest on. -/
structure SameSections (s t : State) : Prop where
  mode : t.mode = s.mode
  config : t.config = s.config
  sections : t.sections = s.sections
  lines : t.lines = s.lines
  source : t.source = s.source

namespace SameSections

variable {s t u : State}

theorem refl (s : State) : SameSections s s := ⟨rfl, rfl, rfl, rfl, rfl⟩

theorem trans (first : SameSections s t) (second : SameSections t u) : SameSections s u :=
  ⟨second.mode.trans first.mode, second.config.trans first.config, second.sections.trans first.sections,
    second.lines.trans first.lines, second.source.trans first.source⟩

theorem withTx (s : State) (x : Transmitter) : SameSections s (s.withTx x) := ⟨rfl, rfl, rfl, rfl, rfl⟩

theorem withRx (s : State) (x : Receiver) : SameSections s (s.withRx x) := ⟨rfl, rfl, rfl, rfl, rfl⟩

theorem preempt (s : State) : SameSections s s.preempt := by
  rw [s.preempt_eq]
  exact withTx s _

/-- An event's end: preemption and the ATTN lines. -/
theorem driven (s : State) : SameSections s s.preempt.driveAttn :=
  (preempt s).trans ⟨rfl, rfl, rfl, rfl, rfl⟩

theorem completeFrame (s : State) (lf : LayerFrame) : SameSections s (s.completeFrame lf) := by
  rw [State.completeFrame_eq, State.spendStart_eq]
  refine SameSections.trans ?_ (withTx _ _)
  unfold State.sentFrame
  dsimp only
  split <;> exact ⟨rfl, rfl, rfl, rfl, rfl⟩

/-- A mirror entry is written that holds what it held. -/
theorem setMirror {m : EntryIndex} {e e' : MirrorEntry} (held : s.mirror.get m = some e) (hold : e'.hold = e.hold) :
    SameSections s (s.setMirror m e') := by
  refine ⟨rfl, rfl, rfl, rfl, funext fun src => ?_⟩
  cases src with
  | localPoint p => rfl
  | mirror k =>
    unfold State.source
    by_cases here : k = m
    · subst here
      simp only [State.setMirror, Table.get_set_same, held, hold]
    · simp only [State.setMirror, Table.get_set_other _ _ here]

end SameSections

/-- An evaluation leaves every source alone. -/
theorem State.applySection_source (s : State) (n : Slot) (f : Section → Section) :
    (s.applySection n f).source = s.source :=
  State.source_congr (s.applySection_records n f) (s.applySection_mirror n f)

/-- What the timers and the frames for the part make of one section in RUNNING. -/
inductive Settlement (u : State) : (Section → Section) → Prop where
  | deadline : Settlement u Section.expireDeadline
  | holdOff : Settlement u u.expireHoldOff
  | answer (tag : Serial) (station : Station) (p : PointIndex) (mark : Bool) :
      Settlement u (u.takeAnswer tag station p mark)
  | restore (direct : Bool) (serial : Serial) : Settlement u (u.takeRestore direct serial)

namespace Settlement

variable {u : State} {f : Section → Section} {sec : Section}

theorem shape (settlement : Settlement u f) (shape : SectionShape sec) : SectionShape (f sec) := by
  cases settlement with
  | deadline => exact shape.expireDeadline
  | holdOff => exact shape.expireHoldOff u
  | answer tag station p mark => exact shape.takeAnswer u tag station p mark
  | restore direct serial => exact shape.takeRestore u direct serial

theorem agrees (settlement : Settlement u f) (agrees : sec.agrees) : (f sec).agrees := by
  cases settlement with
  | deadline => exact agrees.expireDeadline
  | holdOff => exact agrees.expireHoldOff u
  | answer tag station p mark => exact agrees.takeAnswer u tag station p mark
  | restore direct serial => exact agrees.takeRestore u direct serial

theorem rests {late : TermSource → Prop} (settlement : Settlement u f) (rests : u.restsBut late sec)
    (shape : SectionShape sec) : u.restsBut late (f sec) := by
  cases settlement with
  | deadline => exact rests.expireDeadline shape
  | holdOff => exact rests.expireHoldOff
  | answer tag station p mark => exact rests.takeAnswer shape tag station p mark
  | restore direct serial => exact rests.takeRestore direct serial

end Settlement

/-- What an event within a mode can make of the sections up to some moment of it, and the sources whose change has yet
to reach the section of a slot. -/
inductive SectionEvent (s : State) : State → (Slot → TermSource → Prop) → Prop where
  | read {u : State} {late : Slot → TermSource → Prop} (mode : u.mode = s.mode) (config : u.config = s.config)
      (sections : u.sections = s.sections) (lines : u.lines = s.lines)
      (stands : ∀ n, ∀ sec ∈ s.sections.get n, ∀ t ∈ sec.terms, ¬ late n t.source →
        u.source t.source = s.source t.source ∨ ∀ v ∈ s.source t.source, v.fresh = false) : SectionEvent s u late
  | same {u v : State} {late : Slot → TermSource → Prop} (event : SectionEvent s u late) (same : SameSections u v) :
      SectionEvent s v late
  | passed {u : State} {late late' : Slot → TermSource → Prop} (event : SectionEvent s u late)
      (less : ∀ n, ∀ sec ∈ u.sections.get n, ∀ t ∈ sec.terms, late n t.source → late' n t.source) :
      SectionEvent s u late'
  | reached {u : State} {late : Slot → TermSource → Prop} (event : SectionEvent s u late) (n : Slot)
      {notice : Option DisturbanceCause} {src : TermSource} {v : SourceView} (view : u.source src = some v)
      (fresh : notice = none → v.fresh = true) :
      SectionEvent s (u.reachSection n notice src) fun m => if m = n then lateExcept (late n) src else late m
  | settled {u : State} {late : Slot → TermSource → Prop} (event : SectionEvent s u late) (running : u.mode = .running)
      {f : Section → Section} (settlement : Settlement u f) (n : Slot) : SectionEvent s (u.applySection n f) late
  | toggled {u : State} {late : Slot → TermSource → Prop} (event : SectionEvent s u late) (n : Slot) :
      SectionEvent s (u.setLine n (u.lines.get n).sweep) late

/-- No change is on its way. -/
def noneLate : Slot → TermSource → Prop := fun _ _ => False

/-- Every changed point has its place in the order of a completion (log 9). -/
theorem mem_changeOrder {draw : Nat} {n : Slot} {points : List PointIndex} {p : PointIndex} (mem : p ∈ points) :
    p ∈ changeOrder draw n points := by
  unfold changeOrder
  split
  · exact mem
  · exact mem
  · unfold orderedBy
    simp only [List.mem_append, List.mem_dedup, List.mem_filter, Bool.not_eq_true', List.contains_eq_mem,
      decide_eq_true_eq, decide_eq_false_iff_not]
    by_cases ordered : p ∈ Config.pointChangeOrder draw n
    · exact .inl ⟨ordered, mem⟩
    · exact .inr ⟨mem, ordered⟩

/-! ### The events (R90 to R100, R108, R143, R144) -/

namespace SectionEvent

variable {s u : State} {late : Slot → TermSource → Prop}

theorem refl (s : State) : SectionEvent s s noneLate :=
  .read rfl rfl rfl rfl fun _ _ _ _ _ _ => .inl rfl

theorem of_same (same : SameSections s u) : SectionEvent s u noneLate := (refl s).same same

theorem driven (event : SectionEvent s u late) : SectionEvent s u.preempt.driveAttn late := event.same (.driven u)

/-- A change of one source reaches every slot (R100). -/
theorem notifySections {m : EntryIndex} {notice : Option DisturbanceCause} {v : SourceView}
    (event : SectionEvent s u fun _ src => src = .mirror m) (view : u.source (.mirror m) = some v)
    (fresh : notice = none → v.fresh = true) : SectionEvent s (u.notifySections notice m) noneLate := by
  have slots (l : List Slot) : ∀ (w : State) (late : Slot → TermSource → Prop), SectionEvent s w late →
      w.source (.mirror m) = some v → (∀ n src, late n src → n ∈ l ∧ src = .mirror m) →
      SectionEvent s (l.foldl (fun t n => t.reachSection n notice (.mirror m)) w) noneLate := by
    induction l with
    | nil => exact fun w late event _ rest => event.passed fun n _ _ t _ now => nomatch (rest n t.source now).1
    | cons n l ih =>
      intro w late event view rest
      refine ih _ _ (event.reached n view fresh) ?_ fun k src now => ?_
      · exact (congrFun (w.applySection_source n _) _).trans view
      · by_cases here : k = n
        · rw [if_pos here] at now
          exact absurd (rest n src now.1).2 now.2
        · rw [if_neg here] at now
          obtain ⟨mem, source⟩ := rest k src now
          exact ⟨(List.mem_cons.1 mem).resolve_left here, source⟩
  exact slots allSlots u _ event view fun n src source => ⟨mem_allSlots n, source⟩

/-- Only the terms on one mirror entry see it written. -/
theorem setMirror (s : State) (m : EntryIndex) (e : MirrorEntry) :
    SectionEvent s (s.setMirror m e) fun _ src => src = .mirror m := by
  refine .read rfl rfl rfl rfl fun n sec _ t _ other => .inl ?_
  unfold State.source
  cases source : t.source with
  | localPoint p => rfl
  | mirror k =>
    have here : k ≠ m := fun here => other (by rw [source, here])
    simp only [State.setMirror, Table.get_set_other _ _ here]

/-- An UNHEARD or STALE entry takes a frame without a notification, for no current section rests on it (R95). -/
theorem setMirror_unnoticed {m : EntryIndex} {entry e : MirrorEntry} (held : s.mirror.get m = some entry)
    (stale : ∀ v, entry.hold ≠ .fresh v) : SectionEvent s (s.setMirror m e) noneLate := by
  refine .read rfl rfl rfl rfl fun n sec _ t _ _ => ?_
  cases source : t.source with
  | localPoint p => exact .inl rfl
  | mirror k =>
    by_cases here : k = m
    · subst here
      refine .inr fun v view => ?_
      unfold State.source at view
      simp only [held] at view
      cases hold : entry.hold with
      | unheard => simp [hold] at view
      | fresh w => exact absurd hold (stale w)
      | stale w =>
        simp only [hold, Option.mem_def, Option.some.injEq] at view
        rw [← view]
        rfl
    · refine .inl ?_
      unfold State.source
      simp only [State.setMirror, Table.get_set_other _ _ here]

theorem present (s : State) (source : Station) (c : PointContent) : SectionEvent s (s.present source c) noneLate := by
  unfold State.present
  split
  · exact refl s
  · rename_i m _
    rcases s.presentAt_cases m c with ⟨_, e⟩ | ⟨entry, held, ⟨stale, e⟩ | ⟨v, _, e⟩⟩ <;> rw [e]
    · exact refl s
    · exact setMirror_unnoticed held stale
    · exact (setMirror s m _).notifySections
        (State.source_of_fresh (v := c.view) (Table.get_set_same _ _ _) rfl) fun _ => rfl

theorem expireAge {m : EntryIndex} (e : MirrorEntry) : SectionEvent s (s.expireAge m e) noneLate := by
  cases hold : e.hold with
  | unheard =>
    rw [State.expireAge, hold]
    exact refl s
  | stale v =>
    rw [State.expireAge, hold]
    exact refl s
  | fresh v =>
    rw [State.expireAge_eq s m hold]
    refine SectionEvent.driven ?_
    exact (setMirror s m _).notifySections (s.aged_source m e v) fun none => nomatch none

theorem handleCountReport (f : Received) (s : State) : SectionEvent s (handleCountReport f s) noneLate := by
  cases f with
  | countReport source c => exact present s source c
  | _ => exact refl s

theorem handleSettleAnswer (f : Received) (s : State) : SectionEvent s (handleSettleAnswer f s) noneLate := by
  cases f with
  | settleAnswer source requester n tag c =>
    have taken := present s source c
    unfold Machine.handleSettleAnswer
    dsimp only
    split
    · rename_i running
      exact taken.settled ((State.present_mode s source c).trans running.1) (.answer tag source c.point _) n
    · exact taken
  | _ => exact refl s

theorem handleSettleRequest (f : Received) (s : State) : SectionEvent s (handleSettleRequest f s) noneLate := by
  unfold Machine.handleSettleRequest
  split
  · split
    · rw [foldl_answerPoint_eq]
      exact of_same (.withTx _ _)
    · exact refl s
  · exact refl s

theorem handleRestoreCommand (f : Received) (s : State) : SectionEvent s (handleRestoreCommand f s) noneLate := by
  unfold Machine.handleRestoreCommand
  split
  · split
    · rename_i taken
      exact (refl s).settled taken.1 (.restore _ _) _
    · exact refl s
  · exact refl s

theorem endHandling (s : State) (ofClass : Nat → Bool) {effect : Received → State → State}
    (event : ∀ f, SectionEvent s (effect f s) noneLate) : SectionEvent s (s.endHandling ofClass effect) noneLate := by
  rcases s.endHandling_cases ofClass effect with ⟨e, _⟩ | ⟨_, _, _, _, ⟨_, e⟩ | ⟨f, _, e⟩⟩ <;> rw [e]
  · exact refl s
  · exact of_same (.withRx _ _)
  · exact ((event f).same (.withRx _ _)).driven

/-! ### A sweep completion (R1, R19, R108, R167) -/

/-- Point changes taken by the section of a slot one after another (log 9). -/
theorem foldl_sweepChange (n : Slot) (l : List PointIndex) : ∀ (acc : State × Bool) (late : Slot → TermSource → Prop),
    SectionEvent s acc.1 late → (∀ src, late n src → ∃ p ∈ l, src = .localPoint p) →
      SectionEvent s (l.foldl (sweepChange n) acc).1 fun m src => m ≠ n ∧ late m src := by
  induction l with
  | nil =>
    refine fun acc late event rest => event.passed fun m _ _ t _ now => ?_
    refine ⟨fun here => ?_, now⟩
    obtain ⟨_, none, _⟩ := rest t.source (here ▸ now)
    cases none
  | cons p l ih =>
    intro acc late event rest
    refine (ih (sweepChange n acc p) _ (event.reached n rfl fun _ => rfl) fun src now => ?_).passed ?_
    · rw [if_pos rfl] at now
      obtain ⟨q, mem, source⟩ := rest src now.1
      refine ⟨q, (List.mem_cons.1 mem).resolve_left fun same => ?_, source⟩
      exact now.2 (by rw [source, same])
    · rintro m _ _ t _ ⟨other, now⟩
      rw [if_neg other] at now
      exact ⟨other, now⟩

/-- The part of one slot at a completion: of its late sources none is left (R108). -/
theorem sweepSlot {changed : List PointIndex} (event : SectionEvent s u late) (draw : Nat) (n : Slot)
    (rest : ∀ src, late n src → ∃ p ∈ changed, src = .localPoint p) :
    SectionEvent s (State.sweepSlot changed draw u n) fun m src => m ≠ n ∧ late m src := by
  have reaching (sec : Section) (slot : u.sections.get n = some sec) (t : Term) (mem : t ∈ sec.terms) (p : PointIndex)
      (isChanged : p ∈ changed) (source : t.source = .localPoint p) : p ∈ u.changesReaching changed n := by
    unfold State.changesReaching
    rw [slot]
    exact List.mem_filter.2 ⟨isChanged, Section.uses_iff.2 ⟨t, mem, source⟩⟩
  have pending : SectionEvent s u fun m src =>
      late m src ∧ (m = n → ∃ p ∈ changeOrder draw n (u.changesReaching changed n), src = .localPoint p) := by
    refine event.passed fun m sec slot t mem now => ⟨now, fun here => ?_⟩
    obtain ⟨p, isChanged, source⟩ := rest t.source (here ▸ now)
    exact ⟨p, mem_changeOrder (reaching sec (here ▸ slot) t mem p isChanged source), source⟩
  have taken := (foldl_sweepChange n (changeOrder draw n (u.changesReaching changed n)) (u, false) _ pending
    fun src now => now.2 rfl).passed (late' := fun m src => m ≠ n ∧ late m src) fun _ _ _ _ _ now => ⟨now.1, now.2.1⟩
  unfold State.sweepSlot
  dsimp only
  split
  · exact taken
  · exact taken.toggled n

theorem foldl_sweepSlot {changed : List PointIndex} (draw : Nat) (l : List Slot) :
    ∀ (u : State) (late : Slot → TermSource → Prop), SectionEvent s u late →
      (∀ n src, late n src → n ∈ l ∧ ∃ p ∈ changed, src = .localPoint p) →
      SectionEvent s (l.foldl (State.sweepSlot changed draw) u) noneLate := by
  induction l with
  | nil => exact fun u late event rest => event.passed fun n _ _ t _ now => nomatch (rest n t.source now).1
  | cons n l ih =>
    intro u late event rest
    refine ih _ _ (event.sweepSlot draw n fun src now => (rest n src now).2) fun m src ⟨other, now⟩ => ?_
    obtain ⟨mem, changes⟩ := rest m src now
    exact ⟨(List.mem_cons.1 mem).resolve_left other, changes⟩

/-- The records that a completion leaves alone show the sections what they showed (R36). -/
theorem reportedSweep (s : State) (r : Results) : SectionEvent s (s.reportedSweep r) fun _ src =>
    ∃ p ∈ changedPoints s (s.sweepFront r).sweepRecords, src = .localPoint p := by
  have writes := s.reportedSweep_eq r
  have source : (s.reportedSweep r).source = (s.sweepFront r).sweepRecords.source := by rw [writes]; rfl
  refine .read (by rw [writes]; rfl) (by rw [writes]; rfl) (s.reportedSweep_sections r) (by rw [writes]; rfl)
    fun n sec _ t _ timely => .inl ?_
  rw [source]
  cases term : t.source with
  | mirror m => rfl
  | localPoint p =>
    have unchanged : ¬ recordChanged (s.records.get p) ((s.sweepFront r).sweepRecords.records.get p) := fun changed =>
      timely ⟨p, List.mem_filter.2 ⟨mem_allPoints p, (pointChanged_iff _ _).2 changed⟩, term⟩
    simp only [recordChanged, not_or, not_not] at unchanged
    obtain ⟨nAB, nBA, head, condition, serial⟩ := unchanged
    simp only [State.source, PointRecord.source, nAB, nBA, head, condition, serial]

theorem completeSweep (s : State) (r : Results) : SectionEvent s (s.completeSweep r) noneLate := by
  cases listens : s.mode.listens
  · rw [State.completeSweep_silent listens]
    exact refl s
  · rw [State.completeSweep_stages listens]
    have sectioned := foldl_sweepSlot s.draws allSlots _ _ (reportedSweep s r) fun n src changes =>
      ⟨mem_allSlots n, changes⟩
    generalize allSlots.foldl _ (s.reportedSweep r) = slots at sectioned ⊢
    refine SectionEvent.driven ?_
    exact sectioned.same ⟨rfl, rfl, rfl, rfl, rfl⟩

end SectionEvent

end Sys2Proof.Machine

namespace Sys2Proof.Machine

open Sys2Proof.Claims

/-! ### The sections at every command -/

/-- What a command can make of the sections: an event within the mode, or one of the transitions (R175 to R183). -/
inductive SectionsOutcome (s : State) : State → Prop where
  | event {t : State} (event : SectionEvent s t noneLate) : SectionsOutcome s t
  | reset : SectionsOutcome s s.toReset
  | loading (straps : Station) (held : s.mode = .heldInReset) : SectionsOutcome s (s.enterLoading straps).driveAttn
  | loaded (image : List Byte) (mode : s.mode = .loading) (good : imageGood s.stationNumber image = true) :
      SectionsOutcome s (s.loadImage image).driveAttn
  | listening (mode : s.mode = .loading) (config : s.config.isSome = true) :
      SectionsOutcome s s.enterListening.driveAttn
  | running (mode : s.mode = .listening) : SectionsOutcome s s.enterRunning.driveAttn
  | halted {u : State} (same : SameSections s u) (working : s.mode ≠ .halted) (cause : HaltCause) :
      SectionsOutcome s (u.enterHalted cause).driveAttn

namespace SectionsOutcome

variable {s : State}

theorem of_same {t : State} (same : SameSections s t) : SectionsOutcome s t := .event (.of_same same)

theorem withTx (s : State) (x : Transmitter) : SectionsOutcome s (s.withTx x) := of_same (.withTx s x)

theorem withRx (s : State) (x : Receiver) : SectionsOutcome s (s.withRx x) := of_same (.withRx s x)

theorem completeSweep (s : State) (r : Results) : SectionsOutcome s (s.completeSweep r) := .event (.completeSweep s r)

theorem enterHalted (working : s.mode ≠ .halted) (cause : HaltCause) :
    SectionsOutcome s (s.enterHalted cause).driveAttn := .halted (.refl s) working cause

/-- A character ends, with a clash perhaps (R82 to R87). -/
theorem takeCharacter (listens : s.mode.listens = true) (b : Byte) : SectionsOutcome s (s.takeCharacter b) := by
  have working : s.mode ≠ .halted := fun e => by
    rw [e] at listens
    cases listens
  rcases s.takeCharacter_cases b with ⟨_, _, e⟩ | ⟨_, e⟩ | ⟨_, _, e⟩ <;> rw [e]
  · exact withRx s _
  · rcases State.judgeFrame_cases (s.withRx (s.rx.takeByte b)) (s.rx.takeByte b).buffer with
      ⟨_, e⟩ | ⟨_, _, _, e⟩ | ⟨_, _, _, e⟩ | ⟨_, _, e⟩ <;> rw [e]
    · exact withRx s _
    · exact withRx s _
    · exact .halted (.withRx s _) working .clash
    · exact withRx s _
  · exact withRx s _

/-- The failure count reaches 16 (R77). -/
theorem enterMute (running : s.mode = .running) : SectionsOutcome s s.enterMute :=
  .halted (.withTx s _) (by rw [running]; decide) .mute

end SectionsOutcome

/-- Every command has one of the outcomes. -/
theorem exec_sectionsOutcome (c : Instr) {s t : State} (h : exec c s = .next t) : SectionsOutcome s t := by
  have same : SectionsOutcome s s := .of_same (.refl s)
  have orSame {u : State} {p : Prop} [Decidable p] (taken : p → SectionsOutcome s u) :
      SectionsOutcome s (if p then u else s) := by
    split
    · exact taken ‹_›
    · exact same
  cases c <;> obtain rfl := Host.Outcome.next.inj h
  case resetAssertion k => exact orSame fun _ => .reset
  case resetRelease straps =>
    refine orSame fun held => ?_
    split
    · exact .enterHalted (by rw [held]; decide) _
    · exact .loading straps held
  case configurationReadComplete levels =>
    refine orSame fun reading => ?_
    split
    · exact .loaded _ reading.1 ‹_›
    · exact .enterHalted (by rw [reading.1]; decide) _
  case loadingTimerExpiry => exact orSame fun due => .listening due.1 due.2.2
  case listeningTimerExpiry => exact orSame fun due => .running due.1
  case sweepCompletion r => exact .completeSweep s r
  case filteredLevelChange r _ _ | channelFaulted r _ _ | channelRecovered r _ _ | referenceFaulted r
      | referenceRecovered r | dwellEnd r _ | toggleHalfPeriod r _ => exact orSame fun _ => .completeSweep s r
  case reportTimerExpiry p => exact orSame fun _ => .of_same ((SameSections.withTx s _).trans (.preempt _))
  case statusTimerExpiry n => exact orSame fun _ => .of_same ((SameSections.withTx s _).trans (.preempt _))
  case ageTimerExpiry m =>
    split
    · exact same
    · rename_i e held
      refine orSame fun _ => ?_
      split
      · exact .of_same (.setMirror held rfl)
      · exact .event (.expireAge e)
  case deadlineExpiry n =>
    split
    · exact same
    · exact orSame fun due => .event ((SectionEvent.refl s).settled due.1 .deadline n).driven
  case holdOffExpiry n =>
    split
    · exact same
    · exact orSame fun due => .event ((SectionEvent.refl s).settled due.1 .holdOff n).driven
  case nextLayerLoad =>
    refine orSame fun _ => ?_
    rw [State.loadNext_eq]
    exact .withTx s _
  case liveLayerMove => exact orSame fun _ => .withTx s _
  case idleCompletion => exact orSame fun _ => .of_same ((SameSections.withRx s _).trans (.withTx _ _))
  case arbitrationWon bits => exact orSame fun _ => .withTx s _
  case lostArbitration bit samples => exact orSame fun _ => .of_same ⟨rfl, rfl, rfl, rfl, rfl⟩
  case bitError position samples =>
    refine orSame fun _ => ?_
    split
    · rename_i running
      unfold State.abortFrame
      split
      · exact .enterMute running
      · exact .of_same ⟨rfl, rfl, rfl, rfl, rfl⟩
    · exact orSame fun _ => .withTx s _
  case mute position samples => exact orSame fun due => .enterMute due.1
  case frameCompletion samples =>
    split
    · exact same
    · exact orSame fun _ => .of_same (.completeFrame s _)
  case framingError bit samples => split <;> exact orSame fun _ => .withRx s _
  case badLength data | receiverFrameComplete data | characterComplete data =>
    exact orSame fun due => .takeCharacter due.1 _
  case startBit dominantSamples samples => exact orSame fun _ => .withRx s _
  case countReport => exact .event (.endHandling s _ fun f => .handleCountReport f s)
  case settleAnswer => exact .event (.endHandling s _ fun f => .handleSettleAnswer f s)
  case settleRequest => exact .event (.endHandling s _ fun f => .handleSettleRequest f s)
  case restoreCommand => exact .event (.endHandling s _ fun f => .handleRestoreCommand f s)
  case sectionStatus | class7FrameHandled => exact .event (.endHandling s _ fun _ => .refl s)

/-- A step: a command's outcome, or the passing of a microsecond (log 1). -/
theorem step_sectionsOutcome {s t : State} (h : step s = .next t) :
    (∃ u, SameSections s u ∧ SectionsOutcome u t) ∨ t = s.tick := by
  unfold step at h
  split at h
  · obtain rfl := Host.Outcome.next.inj h
    unfold State.idleStep
    split
    · exact .inl ⟨s, .refl s, .of_same ⟨rfl, rfl, rfl, rfl, rfl⟩⟩
    · exact .inr rfl
  · rename_i c queue _
    exact .inl ⟨{ s with pending := queue }, ⟨rfl, rfl, rfl, rfl, rfl⟩, exec_sectionsOutcome c h⟩

end Sys2Proof.Machine

namespace Sys2Proof.Machine

open Sys2Proof.Claims

/-! ### A property of each section through an evaluation -/

/-- A property of each section with its slot holds on where the evaluation keeps it. -/
theorem State.applySection_forall {u : State} {P : Slot → Section → Prop} (n : Slot) {f : Section → Section}
    (others : ∀ m, m ≠ n → ∀ sec ∈ u.sections.get m, P m sec) (here : ∀ sec ∈ u.sections.get n, P n (f sec)) :
    ∀ m, ∀ sec ∈ (u.applySection n f).sections.get m, P m sec := by
  intro m sec slot
  by_cases same : m = n
  · subst same
    rw [State.applySection_get_same] at slot
    obtain ⟨before, held, rfl⟩ := Option.map_eq_some_iff.1 slot
    exact here before held
  · rw [State.applySection_get_other _ _ same] at slot
    exact others m same sec slot

/-! ### The shape of the sections (O51) -/

namespace SectionsKept

variable {s t : State}

theorem of_same (kept : SectionsKept s) (mode : t.mode = s.mode) (config : t.config = s.config)
    (sections : t.sections = s.sections) : SectionsKept t where
  shape := by rw [sections]; exact kept.shape
  disturbed := by rw [mode, sections]; exact kept.disturbed
  none := by rw [mode, sections]; exact kept.none
  handed := by rw [mode, config]; exact kept.handed

/-- Where the sections are in use, their shape is all there is to show, and outside RUNNING their rest (R118, R129). -/
theorem of_shape (used : t.mode ≠ .heldInReset ∧ t.mode ≠ .loading)
    (shape : ∀ n, ∀ sec ∈ t.sections.get n, SectionShape sec)
    (disturbed : t.mode ≠ .running → ∀ n, ∀ sec ∈ t.sections.get n, sec.state = .disturbed) : SectionsKept t where
  shape := shape
  disturbed := disturbed
  none := fun early => absurd early (not_or.2 used)
  handed := fun early => absurd early (not_or.2 used)

/-- Until LOADING ends no slot holds a section (R107). -/
theorem of_empty (empty : ∀ n, t.sections.get n = .none)
    (handed : ∀ c ∈ t.config, ∀ n, ∀ sec ∈ c.sections.get n, SectionShape sec ∧ sec.state = .disturbed) :
    SectionsKept t where
  shape := fun n _ held => nomatch (empty n).symm.trans held
  disturbed := fun _ n _ held => nomatch (empty n).symm.trans held
  none := fun _ => empty
  handed := fun _ => handed

theorem applySection (kept : SectionsKept s) (n : Slot) {f : Section → Section}
    (shape : ∀ sec, SectionShape sec → SectionShape (f sec))
    (rest : s.mode ≠ .running → ∀ sec, sec.state = .disturbed → (f sec).state = .disturbed) :
    SectionsKept (s.applySection n f) where
  shape := State.applySection_forall n (fun m _ => kept.shape m) fun sec held => shape sec (kept.shape n sec held)
  disturbed := by
    rw [State.applySection_mode]
    intro silent
    exact State.applySection_forall (P := fun _ sec => sec.state = .disturbed) n
      (fun m _ => kept.disturbed silent m) fun sec held => rest silent sec (kept.disturbed silent n sec held)
  none := by
    rw [State.applySection_mode]
    intro early m
    rw [← Option.not_isSome_iff_eq_none, State.applySection_slots, kept.none early m]
    decide
  handed := by
    rw [State.applySection_mode, State.applySection_config]
    exact kept.handed

theorem reachSection (kept : SectionsKept s) (n : Slot) (notice : Option DisturbanceCause) (src : TermSource) :
    SectionsKept (s.reachSection n notice src) := by
  refine kept.applySection n (fun sec shape => ?_) fun _ sec disturbed => ?_
  · split
    · exact shape.evaluateSection s notice ‹_›
    · exact shape
  · split
    · obtain ⟨terms, e⟩ := s.evaluateSection_of_disturbed notice src disturbed
      rw [e]
      exact disturbed
    · exact disturbed

end SectionsKept

namespace SectionEvent

variable {s u : State} {late : Slot → TermSource → Prop}

theorem kept (event : SectionEvent s u late) (kept : SectionsKept s) : SectionsKept u := by
  induction event with
  | read mode config sections _ _ => exact kept.of_same mode config sections
  | same _ same ih => exact ih.of_same same.mode same.config same.sections
  | passed _ _ ih => exact ih
  | reached _ n _ _ ih => exact ih.reachSection n _ _
  | settled _ running settlement n ih =>
    exact ih.applySection n (fun _ => settlement.shape) fun silent => absurd running silent
  | toggled _ n ih => exact ih.of_same rfl rfl rfl

end SectionEvent

/-- The section of a good image (R107, R129, R177). -/
theorem imageGood_section {station : Station} {image : List Byte} (good : imageGood station image = true) {n : Slot}
    {sec : Section} (held : imageSection image n = some sec) : SectionShape sec ∧ sec.state = .disturbed := by
  obtain ⟨_, _, _, _, _, _, _, _, _, records, _⟩ := (imageGood_iff station image).1 good
  have record := records n
  rcases record with free | ⟨used, _, _, ⟨one, four⟩, _⟩
  · exact nomatch ((imageSection_good (records n)).1 free).symm.trans held
  · obtain ⟨_, made, _, _, length, state, cause, balance, _, round, holdOff, _⟩ :=
      (imageSection_good (records n)).2 used
    obtain rfl := Option.some.inj (made.symm.trans held)
    have place : 96 + 9 * n.val + 4 = 100 + 9 * n.val := by omega
    refine ⟨?_, state⟩
    constructor
    case balance => exact iff_of_true balance state
    case bound => rw [balance]; exact fun _ none => nomatch none
    case cause => rw [cause]; exact iff_of_true rfl state
    case round => rw [round, state]; exact iff_of_false Bool.false_ne_true SectionState.noConfusion
    case settled => rw [state]; exact fun either => by rcases either with e | e <;> cases e
    case holdOff => rw [holdOff]; exact fun on => nomatch on
    case awaited => rw [round]; exact fun _ none => nomatch none
    case terms => rw [length, ← place]; exact ⟨one, four⟩

namespace SectionsOutcome

variable {s t : State}

theorem kept (outcome : SectionsOutcome s t) (kept : SectionsKept s) : SectionsKept t := by
  cases outcome with
  | event event => exact event.kept kept
  | reset => exact SectionsKept.reset.of_same rfl rfl rfl
  | loading straps held => exact .of_empty (kept.none (.inl held)) (kept.handed (.inl held))
  | loaded image mode good =>
    refine .of_empty (kept.none (.inr mode)) fun c loaded n sec held => ?_
    obtain rfl := Option.some.inj loaded
    exact imageGood_section good ((Table.get_tabulate _ _).symm.trans held)
  | listening mode config =>
    obtain ⟨c, loaded⟩ := Option.isSome_iff_exists.1 config
    have handed := kept.handed (.inr mode) c loaded
    have table : s.enterListening.driveAttn.sections = c.sections := by
      change s.handedSections = _
      rw [State.handedSections, loaded]
    refine .of_shape ⟨nofun, nofun⟩ ?_ fun _ => ?_ <;> rw [table]
    · exact fun n sec held => (handed n sec held).1
    · exact fun n sec held => (handed n sec held).2
  | running mode => exact .of_shape ⟨nofun, nofun⟩ kept.shape fun silent => absurd rfl silent
  | @halted u same working cause =>
    have working' : u.mode ≠ .halted := by rw [same.mode]; exact working
    have mode := (State.enterHalted_mode working' cause).1
    have sections (n : Slot) (sec : Section) (held : sec ∈ (u.enterHalted cause).driveAttn.sections.get n) :
        ∃ before ∈ s.sections.get n, before.disturb .halt = sec := by
      rw [State.driveAttn_sections, State.enterHalted_get working', same.sections] at held
      exact Option.map_eq_some_iff.1 held
    refine .of_shape (by rw [State.driveAttn_mode, mode]; decide) (fun n sec held => ?_) fun _ n sec held => ?_
    · obtain ⟨before, slot, rfl⟩ := sections n sec held
      exact (kept.shape n before slot).disturb .halt
    · obtain ⟨before, _, rfl⟩ := sections n sec held
      exact before.disturb_state .halt

end SectionsOutcome

end Sys2Proof.Machine

namespace Sys2Proof.Machine

open Sys2Proof.Claims

/-! ### A microsecond at the sections -/

theorem State.tick_section {s : State} {n : Slot} {sec : Section} (held : sec ∈ s.tick.sections.get n) :
    ∃ before ∈ s.sections.get n, before.tick = sec :=
  Option.map_eq_some_iff.1 ((Table.get_map _ _ _).symm.trans held)

/-- No source changes while time passes. -/
theorem State.tick_source (s : State) : s.tick.source = s.source := by
  funext src
  cases src with
  | localPoint p => rfl
  | mirror m =>
    unfold State.source State.tick
    simp only [Table.get_map]
    cases s.mirror.get m with
    | none => rfl
    | some e => rfl

theorem SectionsKept.tick {s : State} (kept : SectionsKept s) : SectionsKept s.tick where
  shape := fun n sec held => by
    obtain ⟨before, slot, rfl⟩ := State.tick_section held
    exact (kept.shape n before slot).tick
  disturbed := fun silent n sec held => by
    obtain ⟨before, slot, rfl⟩ := State.tick_section held
    exact kept.disturbed silent n before slot
  none := fun early n => by
    have empty : s.tick.sections.get n = (s.sections.get n).map Section.tick := Table.get_map _ _ _
    rw [empty, kept.none early n]
    rfl
  handed := kept.handed

/-! ### Sections and the sources they rest on (O51) -/

theorem State.restsBut.of_source {s t : State} {late : TermSource → Prop} {sec : Section}
    (rests : s.restsBut late sec) (source : t.source = s.source) : t.restsBut late sec where
  current := by unfold State.termCurrent; rw [source]; exact rests.current
  quiet := by
    intro settled u mem timely
    rw [State.termQuiet_iff_source, source, ← State.termQuiet_iff_source]
    exact rests.quiet settled u mem timely

theorem sectionsCurrent_iff {s : State} :
    SectionsCurrent s ↔ ∀ n, ∀ sec ∈ s.sections.get n, s.restsBut (noneLate n) sec := by
  refine ⟨fun current n sec slot => ⟨fun undisturbed t mem _ => current.current n sec slot undisturbed t mem,
    fun settled t mem _ => List.all_eq_true.1 (current.quiet n sec slot settled) t mem⟩, fun rests => ⟨?_, ?_⟩⟩
  · exact fun n sec slot undisturbed t mem => (rests n sec slot).current undisturbed t mem id
  · exact fun n sec slot settled => List.all_eq_true.2 fun t mem => (rests n sec slot).quiet settled t mem id

theorem SectionsCurrent.of_disturbed {s : State} (disturbed : ∀ n, ∀ sec ∈ s.sections.get n, sec.state = .disturbed) :
    SectionsCurrent s :=
  sectionsCurrent_iff.2 fun n sec slot => .of_disturbed (disturbed n sec slot)

theorem SectionsCurrent.of_same {s t : State} (current : SectionsCurrent s) (sections : t.sections = s.sections)
    (source : t.source = s.source) : SectionsCurrent t := by
  rw [sectionsCurrent_iff] at current ⊢
  rw [sections]
  exact fun n sec slot => (current n sec slot).of_source source

/-- A source that reads as before, or was not FRESH, leaves a section on current sources there. -/
theorem State.restsBut.read {s u : State} {late : TermSource → Prop} {sec : Section}
    (rests : s.restsBut (fun _ => False) sec) (stands : ∀ t ∈ sec.terms, ¬ late t.source →
      u.source t.source = s.source t.source ∨ ∀ v ∈ s.source t.source, v.fresh = false) : u.restsBut late sec where
  current := by
    intro undisturbed t mem timely
    obtain ⟨v, view, fresh, values⟩ := rests.current undisturbed t mem id
    rcases stands t mem timely with same | stale
    · exact ⟨v, same.trans view, fresh, values⟩
    · exact nomatch fresh.symm.trans (stale v view)
  quiet := by
    intro settled t mem timely
    obtain ⟨v, view, quiet⟩ := State.termQuiet_iff_source.1 (rests.quiet settled t mem id)
    rcases stands t mem timely with same | stale
    · exact State.termQuiet_iff_source.2 ⟨v, same.trans view, quiet⟩
    · exact nomatch (SourceView.quiet_iff.1 quiet).2.2.symm.trans (stale v view)

/-- At every moment of an event the sections rest on current sources, but for those that are late. -/
theorem SectionEvent.rests {s u : State} {late : Slot → TermSource → Prop} (event : SectionEvent s u late)
    (kept : SectionsKept s) (current : SectionsCurrent s) :
    ∀ n, ∀ sec ∈ u.sections.get n, u.restsBut (late n) sec := by
  induction event with
  | read _ _ sections _ stands =>
    rw [sections]
    exact fun n sec slot => (sectionsCurrent_iff.1 current n sec slot).read (stands n sec slot)
  | same _ same ih =>
    rw [same.sections]
    exact fun n sec slot => (ih n sec slot).of_source same.source
  | passed _ less ih => exact fun n sec slot => (ih n sec slot).mono (less n sec slot)
  | @reached u late event n notice src v view fresh ih =>
    refine State.applySection_forall n (fun m other sec slot => ?_) fun sec slot => ?_
    · beta_reduce
      rw [if_neg other]
      exact (ih m sec slot).of_source (u.applySection_source n _)
    · beta_reduce
      rw [if_pos rfl]
      refine State.restsBut.of_source ?_ (u.applySection_source n _)
      split
      · rename_i uses
        exact (ih n sec slot).evaluateSection ((event.kept kept).shape n sec slot) view fresh uses
      · rename_i unused
        refine (ih n sec slot).mono fun t mem now => ⟨now, fun source => unused ?_⟩
        exact Section.uses_iff.2 ⟨t, mem, source⟩
  | @settled u late event running f settlement n ih =>
    refine State.applySection_forall n (fun m other sec slot => ?_) fun sec slot => ?_
    · exact (ih m sec slot).of_source (u.applySection_source n _)
    · exact (settlement.rests (ih n sec slot) ((event.kept kept).shape n sec slot)).of_source
        (u.applySection_source n _)
  | toggled _ _ ih => exact fun n sec slot => (ih n sec slot).of_source rfl

theorem SectionsOutcome.current {s t : State} (outcome : SectionsOutcome s t) (kept : SectionsKept s)
    (current : SectionsCurrent s) : SectionsCurrent t := by
  have kept' := outcome.kept kept
  cases outcome with
  | event event => exact sectionsCurrent_iff.2 (event.rests kept current)
  | reset => exact .of_disturbed (kept'.disturbed nofun)
  | loading straps held => exact .of_disturbed (kept'.disturbed nofun)
  | loaded image mode good => exact current.of_same rfl rfl
  | listening mode config => exact .of_disturbed (kept'.disturbed nofun)
  | running mode => exact current.of_same rfl rfl
  | halted same working cause =>
    refine .of_disturbed (kept'.disturbed ?_)
    rw [State.driveAttn_mode, (State.enterHalted_mode (by rw [same.mode]; exact working) cause).1]
    decide

theorem SectionsCurrent.tick {s : State} (current : SectionsCurrent s) : SectionsCurrent s.tick := by
  refine sectionsCurrent_iff.2 fun n sec held => ?_
  obtain ⟨before, slot, rfl⟩ := State.tick_section held
  exact ((sectionsCurrent_iff.1 current n before slot).of_fields (other := before.tick) rfl rfl).of_source
    s.tick_source

/-- A CLEAR section is in RUNNING, empty, on quiet terms (R126, R127). -/
theorem SectionsKept.clear {t : State} (kept : SectionsKept t) (current : SectionsCurrent t) {n : Slot} {sec : Section}
    (slot : t.sections.get n = some sec) (clear : sec.state = .clear) :
    t.mode = .running ∧ sec.balance = some 0 ∧ ∀ u ∈ sec.terms, quiet t u := by
  refine ⟨?_, (kept.shape n sec slot).settled (.inr clear),
    State.allQuiet_iff.1 (current.quiet n sec slot (.inr clear))⟩
  by_contra silent
  exact nomatch clear.symm.trans (kept.disturbed silent n sec slot)

theorem step_sectionsKept {s t : State} (h : step s = .next t) (kept : SectionsKept s) : SectionsKept t := by
  rcases step_sectionsOutcome h with ⟨u, same, outcome⟩ | rfl
  · exact outcome.kept (kept.of_same same.mode same.config same.sections)
  · exact kept.tick

/-- Settles O51: by the outcome of the step, and within an event by the changes still on their way to the sections. -/
theorem sectionsStaySound : Obligations.SectionsStaySound := by
  intro s t kept current h
  have kept' := step_sectionsKept h kept
  have current' : SectionsCurrent t := by
    rcases step_sectionsOutcome h with ⟨u, same, outcome⟩ | rfl
    · exact outcome.current (kept.of_same same.mode same.config same.sections)
        (current.of_same same.sections same.source)
    · exact current.tick
  exact ⟨kept', current', fun n sec slot clear => kept'.clear current' slot clear⟩

/-! ### The balance relation (O52) -/

theorem BalanceAgrees.of_disturbed {s : State} (kept : SectionsKept s)
    (disturbed : ∀ n, ∀ sec ∈ s.sections.get n, sec.state = .disturbed) : BalanceAgrees s := fun n sec slot =>
  Section.agrees.of_balance_none ((kept.shape n sec slot).balance.2 (disturbed n sec slot))

theorem BalanceAgrees.of_sections {s t : State} (agrees : BalanceAgrees s) (sections : t.sections = s.sections) :
    BalanceAgrees t := by
  unfold BalanceAgrees
  rw [sections]
  exact agrees

theorem SectionEvent.agrees {s u : State} {late : Slot → TermSource → Prop} (event : SectionEvent s u late)
    (kept : SectionsKept s) (agrees : BalanceAgrees s) : BalanceAgrees u := by
  induction event with
  | read _ _ sections _ _ => exact agrees.of_sections sections
  | same _ same ih => exact ih.of_sections same.sections
  | passed _ _ ih => exact ih
  | @reached u late event n notice src v _ _ ih =>
    refine State.applySection_forall (P := fun _ => Section.agrees) n (fun m _ => ih m) fun sec slot => ?_
    split
    · exact Section.agrees.evaluateSection (ih n sec slot) ((event.kept kept).shape n sec slot) u notice ‹_›
    · exact ih n sec slot
  | settled _ _ settlement n ih =>
    exact State.applySection_forall (P := fun _ => Section.agrees) n (fun m _ => ih m) fun sec slot =>
      settlement.agrees (ih n sec slot)
  | toggled _ _ ih => exact ih

theorem SectionsOutcome.agrees {s t : State} (outcome : SectionsOutcome s t) (kept : SectionsKept s)
    (agrees : BalanceAgrees s) : BalanceAgrees t := by
  have kept' := outcome.kept kept
  cases outcome with
  | event event => exact event.agrees kept agrees
  | reset => exact .of_disturbed kept' (kept'.disturbed nofun)
  | loading straps held => exact agrees.of_sections rfl
  | loaded image mode good => exact agrees.of_sections rfl
  | listening mode config => exact .of_disturbed kept' (kept'.disturbed nofun)
  | running mode => exact agrees.of_sections rfl
  | halted same working cause =>
    refine .of_disturbed kept' (kept'.disturbed ?_)
    rw [State.driveAttn_mode, (State.enterHalted_mode (by rw [same.mode]; exact working) cause).1]
    decide

/-- Settles O52: an evaluation moves the balance by the net contribution, which is what its terms carry in. -/
theorem balanceStaysCongruent : Obligations.BalanceStaysCongruent := by
  intro s t kept agrees h
  rcases step_sectionsOutcome h with ⟨u, same, outcome⟩ | rfl
  · exact outcome.agrees (kept.of_same same.mode same.config same.sections) (agrees.of_sections same.sections)
  · intro n sec held
    obtain ⟨before, slot, rfl⟩ := State.tick_section held
    exact agrees n before slot

end Sys2Proof.Machine

namespace Sys2Proof.Machine

open Sys2Proof.Claims

/-! ### The CLEAR lines (O53) -/

/-- A CLEAR line as it is while its slot is CLEAR in RUNNING, or is not (R166, R167). -/
structure LineSound (clear : Prop) (l : ClearLine) : Prop where
  toggling : l.toggling = true ↔ clear
  high : l.high = true ↔ l.toggling = true ∧ l.phase < Config.togglesHigh
  phase : l.phase < Config.togglesPeriod
  low : l.toggling = false → l.phase = 0

namespace LineSound

variable {clear : Prop} {l : ClearLine}

theorem congr {clear' : Prop} (sound : LineSound clear l) (same : clear' ↔ clear) : LineSound clear' l :=
  { sound with toggling := sound.toggling.trans same.symm }

theorem held_low (unclear : ¬ clear) : LineSound clear .low where
  toggling := iff_of_false Bool.false_ne_true unclear
  high := by decide
  phase := by decide
  low := fun _ => rfl

/-- A section change carries its state to the line (R166, R167). -/
theorem drive (sound : LineSound clear l) (state : SectionState) : LineSound (state = .clear) (l.drive state) := by
  unfold ClearLine.drive
  cases state with
  | clear =>
    dsimp only
    split
    · rename_i toggles
      exact sound.congr (iff_of_true rfl (sound.toggling.1 toggles))
    · exact ⟨iff_of_true rfl rfl, by decide, by decide, nofun⟩
  | disturbed | occupied | proving | settling => exact held_low nofun

/-- A toggling line is high in the first 25 of its 50 phases (R167). -/
theorem sweep (sound : LineSound clear l) : LineSound clear l.sweep := by
  obtain ⟨toggling, high, phase, low⟩ := sound
  have half : Config.togglesHigh = 25 := rfl
  have period : Config.togglesPeriod = 50 := rfl
  unfold ClearLine.sweep
  split
  · rename_i toggles
    have on {x : Nat} (off : l.toggling = false) : x = 0 := nomatch toggles.symm.trans off
    split
    · exact ⟨toggling, iff_of_false Bool.false_ne_true (by dsimp only; omega), by dsimp only; omega, on⟩
    · split
      · exact ⟨toggling, iff_of_true rfl ⟨toggles, by dsimp only; omega⟩, by dsimp only; omega, on⟩
      · refine ⟨toggling, ?_, by dsimp only; omega, on⟩
        dsimp only
        rw [high]
        exact and_congr_right fun _ => by omega
  · exact ⟨toggling, high, phase, low⟩

end LineSound

theorem linesSound_iff {s : State} :
    LinesSound s ↔ ∀ n, LineSound (s.mode = .running ∧ s.slotClear n) (s.lines.get n) :=
  ⟨fun sound n => ⟨sound.toggling n, sound.high n, sound.phase n, sound.low n⟩,
    fun sound => ⟨fun n => (sound n).toggling, fun n => (sound n).high, fun n => (sound n).phase,
      fun n => (sound n).low⟩⟩

theorem State.slotClear_of_some {s : State} {n : Slot} {sec : Section} (slot : s.sections.get n = some sec) :
    s.slotClear n ↔ sec.state = .clear := by
  unfold State.slotClear
  rw [slot]
  simp

theorem State.slotClear_congr {s t : State} {n : Slot} (same : t.sections.get n = s.sections.get n) :
    t.slotClear n ↔ s.slotClear n := by
  unfold State.slotClear
  rw [same]

/-- Without a section change the state stands (R128). -/
theorem state_of_unchanged {before after : Section} (unchanged : ¬ sectionChanged before after = true) :
    after.state = before.state := by
  simp only [sectionChanged, Bool.or_eq_true, decide_eq_true_eq, not_or, not_not] at unchanged
  obtain ⟨⟨⟨⟨state, _⟩, _⟩, _⟩, _⟩ := unchanged
  exact state.symm

namespace LinesSound

variable {s t : State}

theorem of_same (sound : LinesSound s) (mode : t.mode = s.mode) (sections : t.sections = s.sections)
    (lines : t.lines = s.lines) : LinesSound t := by
  rw [linesSound_iff] at sound ⊢
  intro n
  rw [mode, lines]
  exact (sound n).congr (and_congr_right fun _ => State.slotClear_congr (by rw [sections]))

/-- Outside RUNNING every line is held low, and so a part that rests there finds its lines. -/
theorem of_unclear (sound : LinesSound s) (before : ∀ n, ¬ (s.mode = .running ∧ s.slotClear n))
    (after : ∀ n, ¬ (t.mode = .running ∧ t.slotClear n)) (lines : t.lines = s.lines) : LinesSound t := by
  rw [linesSound_iff] at sound ⊢
  intro n
  rw [lines]
  exact (sound n).congr (iff_of_false (after n) (before n))

theorem of_low (unclear : ∀ n, ¬ (t.mode = .running ∧ t.slotClear n)) (low : ∀ n, t.lines.get n = .low) :
    LinesSound t :=
  linesSound_iff.2 fun n => low n ▸ .held_low (unclear n)

/-- Every evaluation of a section goes to its line (R128, R166). -/
theorem applySection (sound : LinesSound s) (n : Slot) (f : Section → Section) : LinesSound (s.applySection n f) := by
  rw [linesSound_iff] at sound ⊢
  intro m
  rw [State.applySection_mode]
  by_cases here : m = n
  · subst here
    have after := s.applySection_get_same m f
    rw [State.applySection_lines]
    cases slot : s.sections.get m with
    | none =>
      rw [slot] at after
      exact (sound m).congr (and_congr_right fun _ => State.slotClear_congr (after.trans slot.symm))
    | some sec =>
      rw [slot] at after
      rw [State.slotClear_of_some after]
      dsimp only
      split
      · rw [Table.get_set_same]
        split
        · rename_i running
          exact ((sound m).drive (f sec).state).congr (and_iff_right running)
        · exact .held_low fun both => absurd both.1 ‹_›
      · rename_i unchanged
        refine (sound m).congr (and_congr_right fun _ => ?_)
        rw [state_of_unchanged unchanged, State.slotClear_of_some slot]
  · rw [State.applySection_line_other _ _ here]
    exact (sound m).congr (and_congr_right fun _ => State.slotClear_congr (State.applySection_get_other _ _ here))

theorem toggled (sound : LinesSound s) (n : Slot) : LinesSound (s.setLine n (s.lines.get n).sweep) := by
  rw [linesSound_iff] at sound ⊢
  intro m
  rw [State.setLine_lines]
  by_cases here : m = n
  · rw [here, Table.get_set_same]
    exact (sound n).sweep
  · rw [Table.get_set_other _ _ here]
    exact sound m

end LinesSound

theorem SectionEvent.lines {s u : State} {late : Slot → TermSource → Prop} (event : SectionEvent s u late)
    (sound : LinesSound s) : LinesSound u := by
  induction event with
  | read mode _ sections lines _ => exact sound.of_same mode sections lines
  | same _ same ih => exact ih.of_same same.mode same.sections same.lines
  | passed _ _ ih => exact ih
  | reached _ n _ _ ih => exact ih.applySection n _
  | settled _ _ _ n ih => exact ih.applySection n _
  | toggled _ n ih => exact ih.toggled n

/-- Outside RUNNING no section is CLEAR (R118, R129). -/
theorem SectionsKept.unclear {s : State} (kept : SectionsKept s) (silent : s.mode ≠ .running) (n : Slot) :
    ¬ s.slotClear n := fun ⟨sec, slot, clear⟩ => nomatch clear.symm.trans (kept.disturbed silent n sec slot)

theorem SectionsOutcome.lines {s t : State} (outcome : SectionsOutcome s t) (kept : SectionsKept s)
    (sound : LinesSound s) : LinesSound t := by
  have silent {x : State} (mode : x.mode ≠ .running) (n : Slot) : ¬ (x.mode = .running ∧ x.slotClear n) :=
    fun both => mode both.1
  cases outcome with
  | event event => exact event.lines sound
  | reset => exact LinesSound.reset.of_same rfl rfl rfl
  | loading straps held => exact sound.of_unclear (silent (by rw [held]; decide)) (silent nofun) rfl
  | loaded image mode good => exact sound.of_same rfl rfl rfl
  | listening mode config => exact sound.of_unclear (silent (by rw [mode]; decide)) (silent nofun) rfl
  | running mode =>
    have resting : s.mode ≠ .running := by rw [mode]; decide
    exact sound.of_unclear (silent resting) (fun n both => kept.unclear resting n both.2) rfl
  | @halted u same working cause =>
    have working' : u.mode ≠ .halted := by rw [same.mode]; exact working
    have mode := (State.enterHalted_mode working' cause).1
    refine .of_low (silent (by rw [State.driveAttn_mode, mode]; decide)) fun n => ?_
    rw [State.driveAttn_lines, State.enterHalted_eq working']
    exact Table.get_const _ n

/-- Settles O53: a section change drives its line, and a completion advances it. -/
theorem clearLinesStaySound : Obligations.ClearLinesStaySound := by
  intro s t kept sound h
  rcases step_sectionsOutcome h with ⟨u, same, outcome⟩ | rfl
  · exact outcome.lines (kept.of_same same.mode same.config same.sections)
      (sound.of_same same.mode same.sections same.lines)
  · rw [linesSound_iff] at sound ⊢
    intro n
    refine (sound n).congr (and_congr_right fun _ => ⟨fun ⟨sec, held, clear⟩ => ?_, fun ⟨sec, slot, clear⟩ => ?_⟩)
    · obtain ⟨before, slot, rfl⟩ := State.tick_section held
      exact ⟨before, slot, clear⟩
    · exact ⟨sec.tick, (Table.get_map _ _ _).trans (congrArg (Option.map Section.tick) slot), clear⟩

end Sys2Proof.Machine

namespace Sys2Proof.Machine

open Sys2Proof.Claims

/-! ### The request of an opened round (R133) -/

/-- The entry of a request for this round, with its class. -/
def Entry.requests (n : Slot) (id : Nat) (tag : Serial) (e : Entry) : Prop := e.kind = .request n id tag ∧ e.cls = 2

/-- A pending request for this round. -/
def Transmitter.requested (n : Slot) (id : Nat) (tag : Serial) (t : Transmitter) : Prop :=
  ∃ e ∈ t.entries, e.requests n id tag

namespace Transmitter.requested

variable {s : State} {n : Slot} {id : Nat} {tag : Serial}

/-- A status that falls due leaves every request as it is (R66). -/
theorem sectionChangeDue (pending : s.tx.requested n id tag) (m : Slot) :
    (s.sectionChangeDue m).tx.requested n id tag := by
  obtain ⟨e, mem, kind, cls⟩ := pending
  have other : e.kind.isStatus m = false := by rw [kind]; rfl
  have due : e ∈ (s.tx.statusDue m .change).entries := by
    unfold Transmitter.statusDue Transmitter.hold
    split
    · exact List.mem_map.2 ⟨e, mem, if_neg (by rw [other]; decide)⟩
    · split
      · exact mem
      · exact List.mem_append_left _ mem
  unfold State.sectionChangeDue
  split
  · exact ⟨e, due, kind, cls⟩
  · exact ⟨e, mem, kind, cls⟩

/-- An evaluation that opens a round appends its request (R133). -/
theorem of_opened {before : Section} {r : Round} (slot : s.sections.get n = some before) {f : Section → Section}
    (unopened : before.round = none) (opened : (f before).round = some r) :
    (s.applySection n f).tx.requested n r.id r.tag := by
  have followed : ((s.setSection n (f before)).followRound n before (f before)).tx.requested n r.id r.tag := by
    have opens : openedRound before (f before) = some r := by
      unfold openedRound
      rw [opened, unopened]
      rfl
    unfold State.followRound
    rw [opens]
    exact ⟨_, List.mem_append_right _ (List.mem_singleton.2 rfl), rfl, rfl⟩
  unfold State.applySection
  rw [slot]
  dsimp only
  split
  · exact followed.sectionChangeDue n
  · exact followed

/-- A frame that gives way leaves every pending request of another entry, and one with a request is of its class
(R67). -/
theorem givenWay (pending : s.tx.requested n id tag) (kept : PendingKept s) {lf : LayerFrame}
    (next : s.tx.next = some lf) : (s.givenWay lf).requested n id tag := by
  obtain ⟨e, mem, kind, cls⟩ := pending
  unfold Transmitter.requested
  rcases s.givenWay_cases lf with ⟨_, entries⟩ | ⟨_, _, entries⟩ | ⟨_, f, mem', same, entries⟩ <;> rw [entries]
  · exact ⟨e, mem, kind, cls⟩
  · exact ⟨e, (insertByPlace_perm _ _).mem_iff.2 (.tail _ mem), kind, cls⟩
  · by_cases here : e = f
    · subst here
      refine ⟨_, (insertByPlace_perm _ _).mem_iff.2 (.head _), kind, ?_⟩
      have returning : lf.entry.cls = 2 := by
        have holds := (kept.list.next lf next).2.1
        rw [kind] at same
        cases kind' : lf.entry.kind with
        | request k id' tag' =>
          rw [kind'] at holds
          exact holds
        | report p | status k | answer requester k p tag' => rw [kind'] at same; cases same
      rw [mergeEntries, returning, cls]
      rfl
    · exact ⟨e, (insertByPlace_perm _ _).mem_iff.2 (.tail _ (List.mem_filter.2 ⟨mem, decide_eq_true here⟩)), kind, cls⟩

/-- What is loaded from the list is in the next layer (R68). -/
theorem loadNext (pending : s.tx.requested n id tag) (used : (s.sections.get n).isSome = true) :
    requestHeld s.loadNext n tag := by
  obtain ⟨e, mem, kind, cls⟩ := pending
  have entry : (⟨.request n id tag, 2, e.place⟩ : Entry) = e := by rw [← kind, ← cls]
  refine ⟨id, e.place, ?_⟩
  rw [entry]
  rcases s.loadNext_cases with ⟨_, same⟩ | ⟨g, _, loaded⟩
  · rw [same]
    exact .inl mem
  · rw [loaded]
    by_cases chosen : e = g
    · subst chosen
      have builds : (s.buildFrame e).isSome = true := by
        rw [State.buildFrame_isSome, kind]
        exact used
      obtain ⟨f, built⟩ := Option.isSome_iff_exists.1 builds
      exact .inr ⟨f, by rw [State.withTx_tx, built]; rfl⟩
    · exact .inl (List.mem_filter.2 ⟨mem, decide_eq_true chosen⟩)

/-- A pending request is held through preemption (R67, R71). -/
theorem preempt (pending : s.tx.requested n id tag) (kept : PendingKept s)
    (used : (s.sections.get n).isSome = true) : requestHeld s.preempt n tag := by
  rcases s.preempt_cases with ⟨_, same⟩ | ⟨lf, _, next, _, loaded⟩
  · rw [same]
    obtain ⟨e, mem, kind, cls⟩ := pending
    refine ⟨id, e.place, .inl ?_⟩
    rw [← kind, ← cls]
    exact mem
  · rw [loaded]
    exact loadNext (s := s.withTx (s.givenWay lf)) (pending.givenWay kept next) used

end Transmitter.requested

/-! ### A section settles (R124, R143, R160) -/

/-- The round that entry to SETTLING opens (R133). -/
theorem Section.enterSettling_round {sec : Section} (remote : sec.hasRemote = true) :
    ∃ r, sec.enterSettling.round = some r ∧ r.tag = sec.nextTag := by
  rcases sec.enterSettling_cases with ⟨locals, _⟩ | ⟨_, e⟩
  · exact nomatch locals.symm.trans remote
  · exact ⟨_, congrArg Section.round e, rfl⟩

/-- Entry to SETTLING without a remote term is entry to CLEAR (R132). -/
theorem Section.enterSettling_clear {sec : Section} (locals : sec.hasRemote = false) :
    sec.enterSettling.state = .clear := by
  rcases sec.enterSettling_cases with ⟨_, e⟩ | ⟨remote, _⟩
  · exact congrArg Section.state e
  · exact nomatch locals.symm.trans remote

section Evaluated

variable {s : State} {n : Slot} {sec : Section} {f : Section → Section}

/-- The section table after an evaluation and the end of its event. -/
theorem State.applySection_driven_sections (slot : s.sections.get n = some sec) :
    (s.applySection n f).preempt.driveAttn.sections = s.sections.set n (some (f sec)) := by
  rw [State.driveAttn_sections, State.preempt_sections, State.applySection_sections, slot]

theorem State.applySection_slot (slot : s.sections.get n = some sec) :
    (s.applySection n f).sections.get n = some (f sec) := by
  rw [State.applySection_get_same, slot]
  rfl

/-- An evaluation that moves the section leaves its status to be reported (R66, R169). -/
theorem PendingSound.statusFollows (pending : PendingSound s) (running : s.mode = .running)
    (slot : s.sections.get n = some sec) (moved : sec.state ≠ (f sec).state) :
    PendingKept (s.applySection n f) ∧ s.statusFollows n (s.applySection n f) ∧
      sectionMoved (s.sections.get n) ((s.applySection n f).sections.get n) :=
  ⟨PendingFollow.applySection_running pending.kept running n f,
    State.statusFollows.applySection (.of_same rfl) pending.kept running n f,
    sec, f sec, slot, State.applySection_slot slot, .inl moved⟩

theorem PendingSound.statusTaken (pending : PendingSound s) (running : s.mode = .running)
    (slot : s.sections.get n = some sec) (moved : sec.state ≠ (f sec).state) :
    Claims.statusTaken (s.applySection n f).preempt.driveAttn n := by
  obtain ⟨kept, follows, moves⟩ := pending.statusFollows running slot moved
  exact follows.statusTaken kept moves

/-- An evaluation that opens a round leaves its request held (R133). -/
theorem PendingSound.requestHeld (pending : PendingSound s) (running : s.mode = .running)
    (slot : s.sections.get n = some sec) (unopened : sec.round = none) {tag : Serial}
    (opened : ∃ r, (f sec).round = some r ∧ r.tag = tag) :
    Claims.requestHeld (s.applySection n f).preempt.driveAttn n tag := by
  obtain ⟨r, round, rfl⟩ := opened
  exact (Transmitter.requested.of_opened slot unopened round).preempt
    (PendingFollow.applySection_running pending.kept running n f) (by rw [State.applySection_slot slot]; rfl)

end Evaluated

theorem exec_deadlineExpiry {s : State} {n : Slot} {sec : Section} (running : s.mode = .running)
    (slot : s.sections.get n = some sec) (due : sec.deadlineRunning = true) :
    exec (.deadlineExpiry n) s = .next (s.applySection n Section.expireDeadline).preempt.driveAttn := by
  change Host.Outcome.next _ = _
  rw [slot]
  exact congrArg Host.Outcome.next (if_pos ⟨running, due⟩)

theorem exec_holdOffExpiry {s : State} {n : Slot} {sec : Section} (running : s.mode = .running)
    (slot : s.sections.get n = some sec) (due : sec.holdOff.running = true) :
    exec (.holdOffExpiry n) s = .next (s.applySection n s.expireHoldOff).preempt.driveAttn := by
  change Host.Outcome.next _ = _
  rw [slot]
  exact congrArg Host.Outcome.next (if_pos ⟨running, due⟩)

/-- DEADLINE_EXPIRY (R143, R140, R134). -/
theorem deadlineExpiry_closes {s : State} {n : Slot} {sec : Section} (running : s.mode = .running)
    (slot : s.sections.get n = some sec) (shape : SectionShape sec) (pending : PendingSound s)
    (settling : sec.state = .settling) :
    ∃ t, exec (.deadlineExpiry n) s = .next t ∧
      t.sections = s.sections.set n (some { sec with
        state := .occupied, round := none, holdOff := { running := true, elapsed := 0 } }) ∧
      (∀ e ∈ t.tx.entries, e.kind.isRequest n = false) ∧ t.lines = s.lines.set n .low ∧ statusTaken t n ∧
      t.tx.live.isSome = s.tx.live.isSome ∧ t.mirror = s.mirror ∧ t.records = s.records := by
  obtain ⟨r, round⟩ := Option.isSome_iff_exists.1 (shape.round.2 settling)
  obtain ⟨_, _, due⟩ := shape.awaited r round
  have closes : sec.expireDeadline = sec.closeRound := by rw [Section.expireDeadline, round]
  have moved : sec.state ≠ sec.expireDeadline.state := by
    rw [closes, settling]
    exact SectionState.noConfusion
  refine ⟨_, exec_deadlineExpiry running slot (by rw [Section.deadlineRunning, round]; exact due), ?_, ?_, ?_,
    pending.statusTaken running slot moved, ?_, ?_, ?_⟩
  · rw [State.applySection_driven_sections slot, closes]
    rfl
  · have ended := Transmitter.noRequest.of_ended slot (f := Section.expireDeadline) (by rw [round]; rfl)
      (by rw [closes]; rfl)
    refine Transmitter.noRequest.preempt ended ?_
    rw [State.roundId, State.applySection_slot slot, closes]
    rfl
  · have changed : sectionChanged sec sec.expireDeadline = true := by simp [sectionChanged, moved]
    rw [State.driveAttn_lines, State.preempt_lines, State.applySection_lines, slot]
    dsimp only
    rw [if_pos changed, if_pos running, closes]
    rfl
  · rw [State.driveAttn_tx]
    exact (TxKept.preempt _).held.trans (TxKept.applySection s n _).held
  · rw [State.driveAttn_mirror, State.preempt_mirror, State.applySection_mirror]
  · rw [State.driveAttn_records, State.preempt_records, State.applySection_records]

/-- What a hold-off expiry makes of an OCCUPIED section (R124, R125). -/
theorem State.expireHoldOff_eq {s : State} {sec : Section} (shape : SectionShape sec)
    (on : sec.holdOff.running = true) :
    s.expireHoldOff sec =
      if sec.balance = some 0 ∧ s.allQuiet sec = true then settled { sec with holdOff := .stopped }
      else { sec with holdOff := .stopped } := by
  have occupied := shape.holdOff on
  obtain ⟨b, balance⟩ : ∃ b, sec.balance = some b := Option.ne_none_iff_exists'.1 fun none =>
    nomatch occupied.symm.trans (shape.balance.1 none)
  refine State.settleTest_eq (sec := { sec with holdOff := .stopped }) balance ?_
  rw [balance, Option.some_inj]
  exact ⟨fun ⟨empty, quiet⟩ => ⟨empty, .inl occupied, rfl, quiet⟩, fun ⟨empty, _, _, quiet⟩ => ⟨empty, quiet⟩⟩

/-- HOLD_OFF_EXPIRY (R124, R125, R132, R133, R144). -/
theorem holdOffExpiry_settles {s : State} {n : Slot} {sec : Section} (running : s.mode = .running)
    (slot : s.sections.get n = some sec) (shape : SectionShape sec) (pending : PendingSound s)
    (on : sec.holdOff.running = true) :
    ∃ t, exec (.holdOffExpiry n) s = .next t ∧
      t.sections = s.sections.set n (some
        (if sec.balance = some 0 ∧ s.allQuiet sec = true then
          settled { sec with holdOff := { running := false, elapsed := 0 } }
        else { sec with holdOff := { running := false, elapsed := 0 } })) ∧
      t.mirror = s.mirror ∧ t.records = s.records ∧
      (sec.balance = some 0 → s.allQuiet sec = true → statusTaken t n ∧
        (sec.hasRemote = true → requestHeld t n sec.nextTag) ∧
        (sec.hasRemote = false → (s.lines.get n).toggling = false →
          t.lines.get n = { toggling := true, high := true, phase := 0 })) := by
  have occupied := shape.holdOff on
  have evaluated := State.expireHoldOff_eq (s := s) shape on
  refine ⟨_, exec_holdOffExpiry running slot on, ?_, ?_, ?_, fun empty quiet => ?_⟩
  · rw [State.applySection_driven_sections slot, evaluated]
    rfl
  · rw [State.driveAttn_mirror, State.preempt_mirror, State.applySection_mirror]
  · rw [State.driveAttn_records, State.preempt_records, State.applySection_records]
  rw [if_pos ⟨empty, quiet⟩, settled_eq] at evaluated
  have remote (yes : sec.hasRemote = true) : ∃ r, (s.expireHoldOff sec).round = some r ∧ r.tag = sec.nextTag := by
    rw [evaluated]
    exact Section.enterSettling_round (sec := { sec with holdOff := .stopped }) yes
  have locals (no : sec.hasRemote = false) : (s.expireHoldOff sec).state = .clear := by
    rw [evaluated]
    exact Section.enterSettling_clear (sec := { sec with holdOff := .stopped }) no
  have moved : sec.state ≠ (s.expireHoldOff sec).state := by
    rw [occupied, evaluated]
    rcases Section.enterSettling_cases { sec with holdOff := .stopped } with ⟨_, e⟩ | ⟨_, e⟩ <;> rw [e] <;>
      exact SectionState.noConfusion
  refine ⟨pending.statusTaken running slot moved, fun yes => ?_, fun no low => ?_⟩
  · exact pending.requestHeld running slot (shape.round_none (by rw [occupied]; decide)) (remote yes)
  · rw [State.driveAttn_lines, State.preempt_lines]
    exact State.applySection_clear running slot (by rw [occupied]; decide) (locals no) low

/-- Settles O45: the closed round, and the settle-entry test without the hold-off. -/
theorem deadlineAndHoldOffExpiry : Obligations.DeadlineAndHoldOffExpiry :=
  fun _ _ _ running slot shape pending =>
    ⟨deadlineExpiry_closes running slot shape pending, holdOffExpiry_settles running slot shape pending⟩

end Sys2Proof.Machine

namespace Sys2Proof.Machine

open Sys2Proof.Claims

/-! ### An accepted RESTORE COMMAND (R152 to R163) -/

/-- No frame that is read names station 0 as its source (R88). -/
theorem source_ne_zero_of_parseFrame {bytes : List Byte} {source target : Station} {n : Slot} {direct : Bool}
    {serial : Serial} (read : parseFrame bytes = some (.restoreCommand source target n direct serial)) :
    source ≠ 0 := by
  match bytes with
  | [] => cases read
  | [_] => cases read
  | a :: _ :: rest =>
    rw [parseFrame] at read
    obtain ⟨named, read⟩ := Option.ite_none_left_eq_some.1 read
    rcases parseBody_eq_some read with ⟨_, _, _, _, _, _, e⟩ | ⟨_, _, _, _, _, _, _, _, _, _, _, _, _, _, e⟩ |
      ⟨_, _, _, _, _, _, _, _, _, e⟩ | ⟨_, _, _, _, _, _, _, _, _, _, _, _, _, e⟩ | ⟨_, _, e⟩
    · obtain ⟨rfl, _⟩ := Received.restoreCommand.inj e
      exact named
    all_goals cases e

theorem State.authorized_iff {s : State} {cfg : LoadedConfig} (config : s.config = some cfg) {source : Station} :
    s.authorized source = true ↔ source ≠ 0 ∧ (cfg.restore1 = source ∨ cfg.restore2 = source) := by
  unfold State.authorized
  rw [config]
  simp

/-- A RESTORE COMMAND for this station from an authorized one is taken by the section (R93, R152, R154). -/
theorem exec_restoreCommand {s : State} {bytes : List Byte} {source own : Station} {n : Slot} {direct : Bool}
    {serial : Serial} {cfg : LoadedConfig} (running : s.mode = .running) (station : s.station = some own)
    (config : s.config = some cfg) (handling : s.rx.handling = some bytes)
    (read : parseFrame bytes = some (.restoreCommand source own n direct serial))
    (authorized : cfg.restore1 = source ∨ cfg.restore2 = source) :
    exec .restoreCommand s = .next (s.applySection n (s.takeRestore direct serial)).handled := by
  have cls : classOf bytes = 0 := ofClass_of_parseFrame read
  have taken : handleRestoreCommand (.restoreCommand source own n direct serial) s =
      s.applySection n (s.takeRestore direct serial) :=
    if_pos ⟨running, station, (State.authorized_iff config).2 ⟨source_ne_zero_of_parseFrame read, authorized⟩⟩
  have ends := State.endHandling_valid (effect := handleRestoreCommand) (ofClass := fun c => c == 0)
    (by rw [running]; rfl) handling (by rw [cls]; rfl) read
  exact congrArg Host.Outcome.next (ends.trans (by rw [taken]; rfl))

/-- A section at an acceptance, its serial and verdict recorded (R156, R160, R161). -/
def State.restoredRecord (s : State) (serial : Serial) (sec : Section) : Section :=
  { s.restoredSection sec with restoreSerial := some serial, restoreOutcome := .accepted }

/-- The restore record takes no part in entry to SETTLING. -/
theorem Section.enterSettling_recorded (sec : Section) (serial : Option Serial) (outcome : RestoreOutcome) :
    ({ sec with restoreSerial := serial, restoreOutcome := outcome } : Section).enterSettling =
      { sec.enterSettling with restoreSerial := serial, restoreOutcome := outcome } := by
  have remote : ({ sec with restoreSerial := serial, restoreOutcome := outcome } : Section).hasRemote =
      sec.hasRemote := rfl
  unfold Section.enterSettling
  rw [remote]
  split <;> rfl

/-- A new command that passes every test (R159 to R162). -/
theorem State.takeRestore_accepted {s : State} {direct : Bool} {serial : Serial} {sec : Section}
    (new : sec.restoreSerial ≠ some serial) (disturbed : sec.state = .disturbed)
    (permitted : direct = true → sec.direct = true) (quiet : s.allQuiet sec = true) :
    s.takeRestore direct serial sec =
      if direct then (s.restoredRecord serial sec).enterSettling else s.restoredRecord serial sec := by
  have accepted : s.restoreVerdict direct sec = .accepted := by
    unfold State.restoreVerdict
    rw [if_neg (not_not.2 disturbed), if_neg (by simpa using permitted), if_neg (by simp [quiet])]
  rcases s.takeRestore_cases direct serial sec with ⟨same, _⟩ | ⟨_, refused, _⟩ | ⟨_, _, e⟩
  · exact absurd same new
  · exact absurd accepted refused
  · rw [e]
    cases direct with
    | false =>
      rw [State.acceptRestore_prove]
      rfl
    | true => exact (Section.enterSettling_recorded _ _ _).symm

theorem Section.hasRemote_of_sources {before after : Section}
    (sources : after.terms.map Term.source = before.terms.map Term.source) : after.hasRemote = before.hasRemote := by
  have by_sources (sec : Section) : sec.hasRemote = (sec.terms.map Term.source).any fun src => match src with
      | .localPoint _ => false
      | .mirror _ => true := by
    rw [List.any_map]
    rfl
  rw [by_sources, by_sources, sources]

theorem State.restoredRecord_hasRemote (s : State) (serial : Serial) (sec : Section) :
    (s.restoredRecord serial sec).hasRemote = sec.hasRemote :=
  Section.hasRemote_of_sources (congrArg Prod.snd (s.restoredSection_fixed sec))

/-- A DISTURBED section leaves that state with an accepted command (R161, R162). -/
theorem State.takeRestore_moves {s : State} {direct : Bool} {serial : Serial} {sec : Section}
    (disturbed : sec.state = .disturbed) (accepted : s.takeRestore direct serial sec =
      if direct then (s.restoredRecord serial sec).enterSettling else s.restoredRecord serial sec) :
    sec.state ≠ (s.takeRestore direct serial sec).state := by
  rw [disturbed, accepted]
  split
  · rcases (s.restoredRecord serial sec).enterSettling_cases with ⟨_, e⟩ | ⟨_, e⟩ <;> rw [e] <;>
      exact SectionState.noConfusion
  · exact SectionState.noConfusion

/-- An opened round's request is held once the handling has ended (R71, R87, R133). -/
theorem PendingSound.requestHeld_handled {s : State} {n : Slot} {sec : Section} {f : Section → Section}
    (pending : PendingSound s) (running : s.mode = .running) (slot : s.sections.get n = some sec)
    (unopened : sec.round = none) {tag : Serial} (opened : ∃ r, (f sec).round = some r ∧ r.tag = tag) :
    Claims.requestHeld (s.applySection n f).handled n tag := by
  obtain ⟨r, round, rfl⟩ := opened
  have requested := Transmitter.requested.of_opened slot unopened round
  exact Transmitter.requested.preempt (s := (s.applySection n f).finishHandling) requested
    (PendingFollow.applySection_running pending.kept running n f).finishHandling
    (by change ((s.applySection n f).sections.get n).isSome = true; rw [State.applySection_slot slot]; rfl)

/-- Settles O42: the command passes every test of R152, and its section is rebased (log 33). -/
theorem restoreAccepted : Obligations.RestoreAccepted := by
  intro s bytes source own n direct serial cfg sec running station config handling read pending authorized slot shape
    new disturbed permitted quiet base
  have accepted := State.takeRestore_accepted (serial := serial) new disturbed permitted (State.allQuiet_iff.2 quiet)
  have base_eq : base = s.restoredRecord serial sec := rfl
  have moved := State.takeRestore_moves disturbed accepted
  obtain ⟨kept, follows, moves⟩ := pending.statusFollows running slot moved
  refine ⟨_, exec_restoreCommand running station config handling read authorized, ?_, ?_, ?_, ?_,
    follows.statusTaken_handled kept (by rw [State.handled_sections]; exact moves), fun isDirect remote => ?_,
    fun isDirect locals low => ?_⟩
  · rw [State.handled_rx, State.applySection_rx]
  · rw [State.handled_sections, State.applySection_sections, slot, settled_eq, base_eq]
    dsimp only
    rw [accepted]
  · rw [State.handled_eq]
    exact State.applySection_records _ _ _
  · rw [State.handled_mirror, State.applySection_mirror]
  · refine pending.requestHeld_handled running slot (shape.round_none (by rw [disturbed]; decide)) ?_
    rw [accepted, if_pos isDirect]
    exact Section.enterSettling_round ((s.restoredRecord_hasRemote serial sec).trans (Section.hasRemote_iff.2 remote))
  · have noRemote : sec.hasRemote = false := Bool.eq_false_iff.2 fun yes => by
      obtain ⟨u, mem, isRemote⟩ := Section.hasRemote_iff.1 yes
      exact nomatch isRemote.symm.trans (locals u mem)
    rw [State.handled_lines]
    refine State.applySection_clear running slot (by rw [disturbed]; decide) ?_ low
    rw [accepted, if_pos isDirect]
    exact Section.enterSettling_clear ((s.restoredRecord_hasRemote serial sec).trans noRemote)

end Sys2Proof.Machine

namespace Sys2Proof.Machine

open Sys2Proof.Claims

/-! ### A change handed on without a change of state (R66, R128, R151, R166) -/

/-- A line that agrees with the state stays as it is when that state is handed on (R166, R167). -/
theorem ClearLine.drive_of_agrees {l : ClearLine} {state : SectionState} (toggles : state = .clear ↔ l.toggling = true)
    (low : state ≠ .clear → l = .low) : l.drive state = l := by
  cases state with
  | clear => exact if_pos (toggles.1 rfl)
  | disturbed | occupied | proving | settling => exact (low nofun).symm

section Evaluated

variable {s : State} {n : Slot} {sec : Section} {f : Section → Section}

/-- An evaluation that keeps the state leaves a line that agrees with it (R128, R166). -/
theorem State.applySection_lines_of_agrees (running : s.mode = .running) (slot : s.sections.get n = some sec)
    (state : (f sec).state = sec.state) (toggles : sec.state = .clear ↔ (s.lines.get n).toggling = true)
    (low : sec.state ≠ .clear → s.lines.get n = .low) : (s.applySection n f).lines = s.lines := by
  rw [State.applySection_lines, slot]
  dsimp only
  rw [if_pos running, state, ClearLine.drive_of_agrees toggles low, Table.set_get, ite_self]

/-- A section change of any kind has its status taken up (R66, R128, R169). -/
theorem State.applySection_takenUp (kept : PendingKept s) (running : s.mode = .running)
    (slot : s.sections.get n = some sec) (changed : sectionChanged sec (f sec) = true) :
    (s.applySection n f).tx.takenUp (.status n) := by
  unfold State.applySection
  rw [slot]
  dsimp only
  rw [if_pos changed]
  exact State.sectionChangeDue_takenUp (kept.list.followRound slot running (f sec)) running n

/-- The status of a section change in a handling is held at its end (R67, R71, R87, R169). -/
theorem PendingSound.statusTaken_handled (pending : PendingSound s) (running : s.mode = .running)
    (slot : s.sections.get n = some sec) (changed : sectionChanged sec (f sec) = true) :
    Claims.statusTaken (s.applySection n f).handled n := by
  have used : (s.applySection n f).concernsInUse (.status n) := by
    rw [State.applySection_concernsInUse]
    simp [State.concernsInUse, slot]
  have kept := PendingFollow.applySection_running pending.kept running n f
  exact statusTaken_of_takenUp ((State.applySection_takenUp pending.kept running slot changed).preempt
    (s := (s.applySection n f).finishHandling) trivial kept.finishHandling used)

end Evaluated

/-! ### A RESTORE COMMAND ignored or refused (R152 to R159) -/

section Restore

variable {s : State} {direct : Bool} {serial : Serial} {sec : Section}

/-- A RESTORE COMMAND that no section takes frees the handler, and no more (R153 to R155). -/
theorem exec_restoreCommand_ignored {bytes : List Byte} {source own : Station} {n : Slot}
    (running : s.mode = .running) (handling : s.rx.handling = some bytes)
    (read : parseFrame bytes = some (.restoreCommand source own n direct serial)) (pending : PendingSound s)
    (attn : AttnSound s) (ignored : s.authorized source = true →
      ∀ sec, s.sections.get n = some sec → s.takeRestore direct serial sec = sec) :
    exec .restoreCommand s = .next { s with rx := handlerFreed s.rx } := by
  have cls : classOf bytes = 0 := ofClass_of_parseFrame read
  have nothing : handleRestoreCommand (.restoreCommand source own n direct serial) s = s :=
    ite_eq_right_iff.2 fun ⟨_, _, authorized⟩ => State.applySection_of_fixed (ignored authorized)
  have ends := State.endHandling_valid (effect := handleRestoreCommand) (ofClass := fun c => c == 0)
    (by rw [running]; rfl) handling (by rw [cls]; rfl) read
  rw [nothing, State.finishHandling_settles pending attn] at ends
  exact congrArg Host.Outcome.next ends

/-- A command with the serial last judged leaves the section as it is (R155). -/
theorem State.takeRestore_duplicate (judged : sec.restoreSerial = some serial) :
    s.takeRestore direct serial sec = sec := if_pos (decide_eq_true judged)

/-- The section with its last restore, as R156 records it. -/
def Section.judged (serial : Serial) (outcome : RestoreOutcome) (sec : Section) : Section :=
  { sec with restoreSerial := some serial, restoreOutcome := outcome }

/-- A new command that fails a test leaves its serial and verdict, and no more (R156 to R159). -/
theorem State.takeRestore_refused {outcome : RestoreOutcome} (new : sec.restoreSerial ≠ some serial)
    (verdict : s.restoreVerdict direct sec = outcome) (refuses : outcome ≠ .accepted) :
    s.takeRestore direct serial sec = sec.judged serial outcome := by
  subst verdict
  rcases s.takeRestore_cases direct serial sec with ⟨same, _⟩ | ⟨_, _, e⟩ | ⟨_, accepted, _⟩
  · exact absurd same new
  · exact e
  · exact absurd accepted refuses

/-- A recorded serial is a section change (R128, R151). -/
theorem sectionChanged_judged (new : sec.restoreSerial ≠ some serial) (outcome : RestoreOutcome) :
    sectionChanged sec (sec.judged serial outcome) = true := by
  simp [sectionChanged, Section.judged, new]

/-- Outside DISTURBED (row 4 of R152, R157). -/
theorem State.restoreVerdict_state (undisturbed : sec.state ≠ .disturbed) :
    s.restoreVerdict direct sec = .refusedState := if_pos undisturbed

/-- DIRECT where it is not permitted (row 5 of R152, R158). -/
theorem State.restoreVerdict_mode (disturbed : sec.state = .disturbed) (isDirect : direct = true)
    (forbidden : sec.direct = false) : s.restoreVerdict direct sec = .refusedMode := by
  unfold State.restoreVerdict
  rw [if_neg (not_not.2 disturbed), if_pos (by simp [isDirect, forbidden])]

/-- A term that is not quiet (row 6 of R152, R159, log 33). -/
theorem State.restoreVerdict_terms (disturbed : sec.state = .disturbed) (permitted : direct = true → sec.direct = true)
    (unquiet : ∃ t ∈ sec.terms, ¬ quiet s t) : s.restoreVerdict direct sec = .refusedTerms := by
  obtain ⟨t, mem, moves⟩ := unquiet
  have notAll : s.allQuiet sec = false := Bool.eq_false_iff.2 fun all => moves (State.allQuiet_iff.1 all t mem)
  unfold State.restoreVerdict
  rw [if_neg (not_not.2 disturbed), if_neg (by simpa using permitted), if_pos (by simp [notAll])]

end Restore

/-- Settles O41: three commands that no section takes, and the first of three tests that fails (log 33). -/
theorem restoreIgnoredOrRefused : Obligations.RestoreIgnoredOrRefused := by
  intro s bytes source own n direct serial cfg running station config handling read pending attn
  have ignored := exec_restoreCommand_ignored running handling read pending attn
  refine ⟨fun unused => ignored fun _ sec slot => absurd (unused.symm.trans slot) nofun,
    fun not1 not2 => ignored fun authorized => ?_, fun sec slot => ⟨fun judged => ignored fun _ sec' slot' => ?_,
      fun authorized new outcome reason => ?_⟩⟩
  · obtain ⟨_, is1 | is2⟩ := (State.authorized_iff config).1 authorized
    · exact absurd is1 not1
    · exact absurd is2 not2
  · obtain rfl := Option.some.inj (slot.symm.trans slot')
    exact State.takeRestore_duplicate judged
  · have verdict : s.restoreVerdict direct sec = outcome ∧ outcome ≠ .accepted := by
      rcases reason with ⟨undisturbed, rfl⟩ | ⟨disturbed, isDirect, forbidden, rfl⟩ |
        ⟨disturbed, permitted, unquiet, rfl⟩
      · exact ⟨State.restoreVerdict_state undisturbed, nofun⟩
      · exact ⟨State.restoreVerdict_mode disturbed isDirect forbidden, nofun⟩
      · exact ⟨State.restoreVerdict_terms disturbed permitted unquiet, nofun⟩
    obtain ⟨verdict, refuses⟩ := verdict
    have refused := State.takeRestore_refused (serial := serial) new verdict refuses
    refine ⟨_, exec_restoreCommand running station config handling read authorized, ?_, ?_, fun toggles low => ?_, ?_,
      ?_, pending.statusTaken_handled running slot (by rw [refused]; exact sectionChanged_judged new outcome)⟩
    · rw [State.handled_rx, State.applySection_rx]
    · rw [State.handled_sections, State.applySection_sections, slot]
      dsimp only
      rw [refused]
      rfl
    · rw [State.handled_lines]
      exact State.applySection_lines_of_agrees running slot (by rw [refused]; rfl) toggles low
    · rw [State.handled_eq]
      exact State.applySection_records _ _ _
    · rw [State.handled_mirror, State.applySection_mirror]

end Sys2Proof.Machine

namespace Sys2Proof.Machine

open Sys2Proof.Claims

/-! ## Proofs: the indications

A toggling CLEAR line at a completion that leaves its section alone, and the ATTN lines at every step. -/

/-! ### The line of a slot that no point change reaches (R108, R167) -/

/-- The changes that reach a slot depend on its section alone. -/
theorem State.changesReaching_congr {s t : State} {n : Slot} (same : t.sections.get n = s.sections.get n)
    (changed : List PointIndex) : t.changesReaching changed n = s.changesReaching changed n := by
  unfold State.changesReaching
  rw [same]

/-- Without a change to take, the slot's part of a completion is the advance of its line. -/
theorem State.sweepSlot_of_unreached {changed : List PointIndex} {s : State} {n : Slot}
    (unreached : s.changesReaching changed n = []) (draw : Nat) :
    State.sweepSlot changed draw s n = s.setLine n (s.lines.get n).sweep := by
  unfold State.sweepSlot
  rw [unreached]
  rfl

/-- The part of one slot leaves the lines of the others alone. -/
theorem State.sweepSlot_line_other (changed : List PointIndex) (draw : Nat) (s : State) {n m : Slot} (h : m ≠ n) :
    (State.sweepSlot changed draw s n).lines.get m = s.lines.get m :=
  State.sweepSlot_preserves (P := fun t => t.lines.get m = s.lines.get m)
    (fun t _ kept => (t.applySection_line_other _ h).trans kept)
    (fun _ _ kept => (Table.get_set_other _ _ h).trans kept) changed draw rfl

/-- Slots that take their part leave a slot that is not among them alone. -/
theorem foldl_sweepSlot_other (changed : List PointIndex) (draw : Nat) {l : List Slot} {n : Slot} (other : n ∉ l)
    (s : State) :
    (l.foldl (State.sweepSlot changed draw) s).sections.get n = s.sections.get n ∧
      (l.foldl (State.sweepSlot changed draw) s).lines.get n = s.lines.get n :=
  List.foldlRecOn (motive := fun t : State => t.sections.get n = s.sections.get n ∧ t.lines.get n = s.lines.get n) l _
    ⟨rfl, rfl⟩ fun t kept k mem => by
      have apart : n ≠ k := fun same => other (same ▸ mem)
      exact ⟨(State.sweepSlot_get_other changed draw t apart).trans kept.1,
        (State.sweepSlot_line_other changed draw t apart).trans kept.2⟩

/-- Over all slots, the line of an unreached one advances once. -/
theorem foldl_sweepSlot_of_unreached {changed : List PointIndex} {s : State} {n : Slot}
    (unreached : s.changesReaching changed n = []) (draw : Nat) :
    (allSlots.foldl (State.sweepSlot changed draw) s).sections.get n = s.sections.get n ∧
      (allSlots.foldl (State.sweepSlot changed draw) s).lines.get n = (s.lines.get n).sweep := by
  have distinct : allSlots.Nodup := by decide
  obtain ⟨before, after, slots⟩ := List.append_of_mem (mem_allSlots n)
  rw [slots] at distinct ⊢
  obtain ⟨apart, _⟩ := List.nodup_cons.1 (List.nodup_middle.1 distinct)
  obtain ⟨notBefore, notAfter⟩ := not_or.1 (List.mem_append.not.1 apart)
  rw [List.foldl_append, List.foldl_cons]
  obtain ⟨slot, line⟩ := foldl_sweepSlot_other changed draw notBefore s
  generalize before.foldl (State.sweepSlot changed draw) s = t at slot line ⊢
  obtain ⟨slot', line'⟩ := foldl_sweepSlot_other changed draw notAfter (State.sweepSlot changed draw t n)
  rw [slot', line', State.sweepSlot_of_unreached ((State.changesReaching_congr slot changed).trans unreached)]
  exact ⟨slot, by rw [State.setLine_lines, Table.get_set_same, line]⟩

/-- A completion that changes no point of a slot's section advances the slot's line and keeps the section. -/
theorem State.completeSweep_of_unreached {s : State} {r : Results} {n : Slot} (listens : s.mode.listens = true)
    (unreached : s.changesReaching (changedPoints s (s.sweepFront r).sweepRecords) n = []) :
    (s.completeSweep r).lines.get n = (s.lines.get n).sweep ∧
      (s.completeSweep r).sections.get n = s.sections.get n := by
  have sections := s.reportedSweep_sections r
  have lines : (s.reportedSweep r).lines = s.lines := by rw [State.reportedSweep_eq]; rfl
  have unreached' : (s.reportedSweep r).changesReaching (changedPoints s (s.sweepFront r).sweepRecords) n = [] :=
    (State.changesReaching_congr (by rw [sections]) _).trans unreached
  obtain ⟨slot, line⟩ := foldl_sweepSlot_of_unreached unreached' s.draws
  rw [State.completeSweep_stages listens]
  simp only [State.driveAttn_lines, State.preempt_lines, State.driveAttn_sections, State.preempt_sections]
  exact ⟨line.trans (by rw [lines]), slot.trans (by rw [sections])⟩

/-! ### The half-periods of a toggling line (O50) -/

section HalfPeriod

variable {l : ClearLine}

/-- The 25th completion of a period takes the line low (R167). -/
theorem ClearLine.sweep_falls (toggles : l.toggling = true) (phase : l.phase = 24) :
    l.sweep = { toggling := true, high := false, phase := 25 } := by
  simp [ClearLine.sweep, Config.togglesHigh, toggles, phase]

/-- The 50th takes it high, with a new period (R167). -/
theorem ClearLine.sweep_rises (toggles : l.toggling = true) (phase : l.phase = 49) :
    l.sweep = { toggling := true, high := true, phase := 0 } := by
  simp [ClearLine.sweep, Config.togglesHigh, Config.togglesPeriod, toggles, phase]

/-- Every other is counted. -/
theorem ClearLine.sweep_counts (toggles : l.toggling = true) (not24 : l.phase ≠ 24) (not49 : l.phase ≠ 49) :
    l.sweep = { toggling := true, high := l.high, phase := l.phase + 1 } := by
  simp [ClearLine.sweep, Config.togglesHigh, Config.togglesPeriod, toggles, not24, not49]

end HalfPeriod

/-- A half-period ends at the 25th and at the 50th completion (R167). -/
theorem State.halfPeriodEnds_iff {s : State} {n : Slot} (toggles : (s.lines.get n).toggling = true) :
    s.halfPeriodEnds n = true ↔ (s.lines.get n).phase = 24 ∨ (s.lines.get n).phase = 49 := by
  simp [State.halfPeriodEnds, Config.togglesHigh, Config.togglesPeriod, toggles]

theorem exec_toggleHalfPeriod (r : Results) (n : Slot) (s : State) :
    exec (.toggleHalfPeriod r n) s = .next (if s.halfPeriodEnds n then s.completeSweep r else s) := rfl

/-- Settles O50: the completion's part at an unreached slot is one advance of its line, which ends a half-period from
two of the fifty phases. -/
theorem toggleHalfPeriodCompletes : Obligations.ToggleHalfPeriodCompletes := by
  intro s r n listens toggles unreached
  obtain ⟨line, slot⟩ := State.completeSweep_of_unreached listens unreached
  have ends := State.halfPeriodEnds_iff toggles
  have completes := exec_sweepCompletion r s
  rw [exec_toggleHalfPeriod]
  refine ⟨fun falls => ?_, fun rises => ?_, fun not24 not49 => ?_⟩
  · rw [if_pos (ends.2 (.inl falls))]
    exact ⟨_, rfl, completes, line.trans (ClearLine.sweep_falls toggles falls), slot⟩
  · rw [if_pos (ends.2 (.inr rises))]
    exact ⟨_, rfl, completes, line.trans (ClearLine.sweep_rises toggles rises), slot⟩
  · rw [if_neg fun ended => (ends.1 ended).elim not24 not49]
    exact ⟨rfl, _, completes, line.trans (ClearLine.sweep_counts toggles not24 not49), slot⟩

end Sys2Proof.Machine

namespace Sys2Proof.Machine

open Sys2Proof.Claims

/-! ### Events that leave the ATTN lines and all they show alone (R172 to R174) -/

/-- A line's level depends on the mode, the configuration, the records, and on which sections are DISTURBED and which
entries are not FRESH. -/
theorem State.attnLevel_of_live {s t : State} (mode : t.mode = s.mode) (config : t.config = s.config)
    (records : t.records = s.records) (disturbed : t.slotDisturbed = s.slotDisturbed)
    (notFresh : t.entryNotFresh = s.entryNotFresh) (line : Bool) : t.attnLevel line = s.attnLevel line := by
  have inUse (p : PointIndex) : t.pointInUse p = s.pointInUse p := State.pointInUse_congr config p
  have live (c : AttnClass) : t.attnLive c = s.attnLive c := by
    cases c with
    | sectionDisturbed => simp only [State.attnLive, disturbed]
    | pointFaulted | pointDisturbed => simp only [State.attnLive, inUse, records]
    | mirrorNotFresh => simp only [State.attnLive, notFresh]
  unfold State.attnLevel State.attnRouted State.attnRouting
  simp only [mode, config, live]

/-- The lines stand, and so do the levels that the state asks of them. -/
structure AttnStays (s t : State) : Prop where
  attn0 : t.attn0 = s.attn0
  attn1 : t.attn1 = s.attn1
  level : ∀ line, t.attnLevel line = s.attnLevel line

theorem AttnStays.sound {s t : State} (stays : AttnStays s t) (sound : AttnSound s) : AttnSound t where
  attn0 := by rw [stays.attn0, sound.attn0, ← State.attnLevel_active_iff, ← State.attnLevel_active_iff, stays.level]
  attn1 := by rw [stays.attn1, sound.attn1, ← State.attnLevel_active_iff, ← State.attnLevel_active_iff, stays.level]

namespace AttnStays

variable {s t u : State}

theorem refl (s : State) : AttnStays s s := ⟨rfl, rfl, fun _ => rfl⟩

theorem trans (first : AttnStays s t) (second : AttnStays t u) : AttnStays s u :=
  ⟨second.attn0.trans first.attn0, second.attn1.trans first.attn1,
    fun line => (second.level line).trans (first.level line)⟩

theorem withTx (s : State) (x : Transmitter) : AttnStays s (s.withTx x) :=
  ⟨rfl, rfl, State.attnLevel_congr rfl rfl rfl rfl rfl⟩

theorem withRx (s : State) (x : Receiver) : AttnStays s (s.withRx x) :=
  ⟨rfl, rfl, State.attnLevel_congr rfl rfl rfl rfl rfl⟩

/-- Waiting commands are no part of what the lines show. -/
theorem withPending (s : State) (queue : List Instr) : AttnStays s { s with pending := queue } :=
  ⟨rfl, rfl, State.attnLevel_congr rfl rfl rfl rfl rfl⟩

theorem loadNext (s : State) : AttnStays s s.loadNext := by
  rw [State.loadNext_eq]
  exact withTx s _

theorem preempt (s : State) : AttnStays s s.preempt := by
  rw [State.preempt_eq]
  exact withTx s _

theorem completeFrame (s : State) (lf : LayerFrame) : AttnStays s (s.completeFrame lf) := by
  rw [State.completeFrame_eq, State.spendStart_eq]
  refine AttnStays.trans ?_ (withTx _ _)
  unfold State.sentFrame
  dsimp only
  split
  · exact (withTx s _).trans (withRx _ _)
  · exact withTx s _

/-- An overtaken expiry passes over an entry that holds what it held (log 34). -/
theorem passOver {m : EntryIndex} {e : MirrorEntry} (held : s.mirror.get m = some e) :
    AttnStays s (s.setMirror m e.passOver) := by
  refine ⟨rfl, rfl, State.attnLevel_of_live rfl rfl rfl rfl (funext fun k => ?_)⟩
  unfold State.entryNotFresh State.setMirror
  by_cases here : k = m
  · subst here
    simp only [Table.get_set_same, held, MirrorEntry.passOver]
  · simp only [Table.get_set_other _ _ here]

/-- Time makes no section DISTURBED, and an entry STALE by its expiry alone (R99). -/
theorem tick (s : State) : AttnStays s s.tick := by
  refine ⟨rfl, rfl, State.attnLevel_of_live rfl rfl rfl (funext fun n => ?_) (funext fun m => ?_)⟩
  · unfold State.slotDisturbed State.tick
    rw [Table.get_map]
    cases s.sections.get n <;> rfl
  · unfold State.entryNotFresh State.tick
    rw [Table.get_map]
    cases s.mirror.get m <;> rfl

theorem idleStep (s : State) : AttnStays s s.idleStep := by
  unfold State.idleStep
  split
  · exact withPending s _
  · exact tick s

end AttnStays

/-! ### The ATTN lines at every command (O54) -/

/-- What a command can make of the ATTN lines: it ends by driving them, or leaves them and all they show alone. -/
inductive AttnOutcome (s : State) : State → Prop where
  | driven (u : State) : AttnOutcome s u.driveAttn
  | stays {t : State} (stays : AttnStays s t) : AttnOutcome s t

theorem AttnOutcome.sound {s t : State} (outcome : AttnOutcome s t) (sound : AttnSound s) : AttnSound t := by
  cases outcome with
  | driven u => exact .driveAttn u
  | stays stays => exact stays.sound sound

namespace AttnOutcome

/-- A command that takes hold under a condition, and changes nothing elsewhere (log 3). -/
theorem orKept {s u : State} {c : Prop} [Decidable c] (taken : AttnOutcome s u) :
    AttnOutcome s (if c then u else s) := by
  split
  · exact taken
  · exact .stays (.refl s)

theorem withTx (s : State) (x : Transmitter) : AttnOutcome s (s.withTx x) := .stays (.withTx s x)

theorem withRx (s : State) (x : Receiver) : AttnOutcome s (s.withRx x) := .stays (.withRx s x)

/-- Both lines are active at reset, which is what driving them in that state makes of them (R174). -/
theorem toReset (s : State) : AttnOutcome s s.toReset := .driven s.toReset

theorem completeSweep (s : State) (r : Results) : AttnOutcome s (s.completeSweep r) := orKept (.driven _)

theorem expireAge (s : State) (m : EntryIndex) (e : MirrorEntry) : AttnOutcome s (s.expireAge m e) := by
  unfold State.expireAge
  split
  · exact .driven _
  · exact .stays (.refl s)
  · exact .stays (.refl s)

/-- The last failure halts the part; any other abort is the transmitter's own (R76, R77). -/
theorem abortFrame (s : State) : AttnOutcome s s.abortFrame := by
  unfold State.abortFrame
  split
  · exact .driven _
  · exact .stays ((AttnStays.withTx s _).trans (.withTx _ _))

/-- Of the ends of a character only a clash reaches the lines (R86). -/
theorem takeCharacter (s : State) (b : Byte) : AttnOutcome s (s.takeCharacter b) := by
  rcases s.takeCharacter_cases b with ⟨_, _, e⟩ | ⟨_, e⟩ | ⟨_, _, e⟩ <;> rw [e]
  · exact withRx s _
  · have taken := AttnStays.withRx s (s.rx.takeByte b)
    rcases State.judgeFrame_cases (s.withRx (s.rx.takeByte b)) (s.rx.takeByte b).buffer with
      ⟨_, e⟩ | ⟨_, _, _, e⟩ | ⟨_, _, _, e⟩ | ⟨_, _, e⟩ <;> rw [e]
    · exact .stays (taken.trans (.withRx _ _))
    · exact .stays (taken.trans (.withRx _ _))
    · exact .driven _
    · exact .stays ((taken.trans (.withRx _ _)).trans (.withRx _ _))
  · exact withRx s _

/-- A handling with an effect ends by driving the lines, whatever the effect is (R90). -/
theorem endHandling (s : State) (ofClass : Nat → Bool) (effect : Received → State → State) :
    AttnOutcome s (s.endHandling ofClass effect) := by
  rcases s.endHandling_cases ofClass effect with ⟨e, _⟩ | ⟨_, _, _, _, ⟨_, e⟩ | ⟨f, _, e⟩⟩ <;> rw [e]
  · exact .stays (.refl s)
  · exact withRx s _
  · exact .driven _

end AttnOutcome

/-- Every command has one of the two outcomes. -/
theorem exec_attnOutcome (c : Instr) {s t : State} (h : exec c s = .next t) : AttnOutcome s t := by
  have same : AttnOutcome s s := .stays (.refl s)
  cases c <;> obtain rfl := Host.Outcome.next.inj h
  case resetAssertion k => exact .orKept (.toReset s)
  case resetRelease straps =>
    refine .orKept ?_
    split <;> exact .driven _
  case configurationReadComplete levels =>
    refine .orKept ?_
    split <;> exact .driven _
  case loadingTimerExpiry | listeningTimerExpiry => exact .orKept (.driven _)
  case sweepCompletion r => exact .completeSweep s r
  case filteredLevelChange r _ _ | channelFaulted r _ _ | channelRecovered r _ _ | referenceFaulted r
      | referenceRecovered r | dwellEnd r _ | toggleHalfPeriod r _ => exact .orKept (.completeSweep s r)
  case reportTimerExpiry | statusTimerExpiry =>
    exact .orKept (.stays ((AttnStays.withTx s _).trans (.preempt _)))
  case ageTimerExpiry m =>
    split
    · exact same
    · rename_i e held
      refine .orKept ?_
      split
      · exact .stays (.passOver held)
      · exact .expireAge s m e
  case deadlineExpiry n | holdOffExpiry n =>
    split
    · exact same
    · exact .orKept (.driven _)
  case nextLayerLoad => exact .orKept (.stays (.loadNext s))
  case liveLayerMove | arbitrationWon | lostArbitration => exact .orKept (.withTx s _)
  case idleCompletion => exact .orKept (.stays ((AttnStays.withRx s _).trans (.withTx _ _)))
  case bitError position samples =>
    refine .orKept ?_
    split
    · exact .abortFrame s
    · exact .orKept (.withTx s _)
  case mute position samples => exact .orKept (.driven _)
  case frameCompletion samples =>
    split
    · exact same
    · exact .orKept (.stays (.completeFrame s _))
  case framingError bit samples => split <;> exact .orKept (.withRx s _)
  case badLength | receiverFrameComplete | characterComplete => exact .orKept (.takeCharacter s _)
  case startBit => exact .orKept (.withRx s _)
  case countReport | settleAnswer | settleRequest | restoreCommand | sectionStatus | class7FrameHandled =>
    exact .endHandling s _ _

/-- Settles O54: every event that can change what the lines show ends by driving them. -/
theorem attnLinesStaySound : Obligations.AttnLinesStaySound := by
  refine ⟨.reset, fun s t sound h => ?_⟩
  unfold step at h
  split at h
  · obtain rfl := Host.Outcome.next.inj h
    exact (AttnStays.idleStep s).sound sound
  · rename_i c queue _
    exact (exec_attnOutcome c h).sound ((AttnStays.withPending s queue).sound sound)

end Sys2Proof.Machine

namespace Sys2Proof.Machine

open Sys2Proof.Claims

/-! ## Proofs: the step and the queue of waiting commands -/

/-! ### What the operations of a command leave of the queue (log 1) -/

/-- A command that takes hold under a condition, and changes nothing elsewhere (log 3). -/
theorem State.orKept_pending {s t : State} {c : Prop} [Decidable c] (taken : t.pending = s.pending) :
    (if c then t else s).pending = s.pending := by
  split
  · exact taken
  · rfl

/-- The queue is the model's own, and a reset keeps it (log 25). -/
@[simp] theorem State.toReset_pending (s : State) : s.toReset.pending = s.pending := rfl

@[simp] theorem State.enterHalted_pending (s : State) (cause : HaltCause) :
    (s.enterHalted cause).pending = s.pending := by
  by_cases halted : s.mode = .halted
  · rw [State.enterHalted_again halted]
  · rw [State.enterHalted_eq halted]

@[simp] theorem State.completeSweep_pending (s : State) (r : Results) : (s.completeSweep r).pending = s.pending := by
  cases listens : s.mode.listens
  · rw [State.completeSweep_silent listens]
  · rw [State.completeSweep_eq listens]
    rfl

@[simp] theorem State.present_pending (s : State) (source : Station) (c : PointContent) :
    (s.present source c).pending = s.pending := by
  rw [State.present_eq, State.withSectionParts_pending]

/-- A FRESH entry notifies its sections as it expires; another has nothing to expire (R99). -/
@[simp] theorem State.expireAge_pending (s : State) (m : EntryIndex) (e : MirrorEntry) :
    (s.expireAge m e).pending = s.pending := by
  unfold State.expireAge
  split
  · simp
  · rfl
  · rfl

@[simp] theorem State.enterMute_pending (s : State) : s.enterMute.pending = s.pending := by
  simp [State.enterMute]

@[simp] theorem State.abortFrame_pending (s : State) : s.abortFrame.pending = s.pending := by
  unfold State.abortFrame
  split
  · exact s.enterMute_pending
  · simp

@[simp] theorem State.completeFrame_pending (s : State) (lf : LayerFrame) :
    (s.completeFrame lf).pending = s.pending := by
  unfold State.completeFrame
  dsimp only
  rw [State.spendStart_pending]
  split <;> rfl

/-! ### What the receiver and the frame handler leave of the queue -/

@[simp] theorem State.judgeFrame_pending (s : State) (bytes : List Byte) :
    (s.judgeFrame bytes).pending = s.pending := by
  rcases s.judgeFrame_cases bytes with ⟨_, e⟩ | ⟨_, _, _, e⟩ | ⟨_, _, _, e⟩ | ⟨_, _, e⟩ <;> rw [e] <;> simp

@[simp] theorem State.takeCharacter_pending (s : State) (b : Byte) : (s.takeCharacter b).pending = s.pending := by
  rcases s.takeCharacter_cases b with ⟨_, _, e⟩ | ⟨_, e⟩ | ⟨_, _, e⟩ <;> rw [e] <;> simp

@[simp] theorem State.finishHandling_pending (s : State) : s.finishHandling.pending = s.pending := rfl

/-- The end of a handling leaves the queue to the frame's effect (R88 to R90). -/
theorem State.endHandling_pending (s : State) (ofClass : Nat → Bool) {effect : Received → State → State}
    (keeps : ∀ f, (effect f s).pending = s.pending) : (s.endHandling ofClass effect).pending = s.pending := by
  rcases s.endHandling_cases ofClass effect with ⟨e, _⟩ | ⟨_, _, _, _, ⟨_, e⟩ | ⟨f, _, e⟩⟩ <;> rw [e]
  · exact s.finishHandling_pending
  · simpa using keeps f

@[simp] theorem handleCountReport_pending (f : Received) (s : State) :
    (handleCountReport f s).pending = s.pending := by
  cases f with
  | countReport source c => exact s.present_pending source c
  | _ => rfl

@[simp] theorem handleSettleAnswer_pending (f : Received) (s : State) :
    (handleSettleAnswer f s).pending = s.pending := by
  cases f with
  | settleAnswer source requester n tag c =>
    unfold handleSettleAnswer State.answerRound
    dsimp only
    split <;> simp
  | _ => rfl

@[simp] theorem handleSettleRequest_pending (f : Received) (s : State) :
    (handleSettleRequest f s).pending = s.pending := by
  cases f with
  | settleRequest source n tag points =>
    refine State.orKept_pending ?_
    rw [foldl_answerPoint_eq, State.withTx_pending]
  | _ => rfl

@[simp] theorem handleRestoreCommand_pending (f : Received) (s : State) :
    (handleRestoreCommand f s).pending = s.pending := by
  cases f with
  | restoreCommand source target n direct serial => exact State.orKept_pending (s.applySection_pending n _)
  | _ => rfl

/-! ### The queue at every command, and the step that takes a command from it (O1, O2) -/

/-- No arm of the dispatch answers a fault or a refusal. -/
theorem exec_completes (c : Instr) (s : State) : ∃ t, exec c s = .next t := by
  cases c <;> exact ⟨_, rfl⟩

/-- Whatever a command changes, the queue is left to the step. -/
theorem exec_pending (c : Instr) {s t : State} (h : exec c s = .next t) : t.pending = s.pending := by
  cases c <;> obtain rfl := Host.Outcome.next.inj h
  case resetAssertion k => exact State.orKept_pending s.toReset_pending
  case resetRelease straps =>
    refine State.orKept_pending ?_
    split
    · simp
    · rfl
  case configurationReadComplete levels =>
    refine State.orKept_pending ?_
    split
    · rfl
    · simp
  case loadingTimerExpiry | listeningTimerExpiry => exact State.orKept_pending rfl
  case sweepCompletion r => exact s.completeSweep_pending r
  case filteredLevelChange r _ _ | channelFaulted r _ _ | channelRecovered r _ _ | referenceFaulted r
      | referenceRecovered r | dwellEnd r _ | toggleHalfPeriod r _ =>
    exact State.orKept_pending (s.completeSweep_pending r)
  case reportTimerExpiry | statusTimerExpiry => exact State.orKept_pending (State.preempt_pending _)
  case ageTimerExpiry m =>
    split
    · rfl
    · refine State.orKept_pending ?_
      split
      · rfl
      · exact s.expireAge_pending m _
  case deadlineExpiry n | holdOffExpiry n =>
    split
    · rfl
    · exact State.orKept_pending (by simp)
  case nextLayerLoad => exact State.orKept_pending s.loadNext_pending
  case liveLayerMove | idleCompletion | arbitrationWon | lostArbitration => exact State.orKept_pending rfl
  case bitError position samples =>
    refine State.orKept_pending ?_
    split
    · exact s.abortFrame_pending
    · exact State.orKept_pending rfl
  case mute position samples => exact State.orKept_pending s.enterMute_pending
  case frameCompletion samples =>
    split
    · rfl
    · exact State.orKept_pending (s.completeFrame_pending _)
  case framingError bit samples => split <;> exact State.orKept_pending rfl
  case startBit => exact State.orKept_pending rfl
  case badLength | receiverFrameComplete | characterComplete => exact State.orKept_pending (s.takeCharacter_pending _)
  case countReport => exact s.endHandling_pending _ fun f => handleCountReport_pending f s
  case settleAnswer => exact s.endHandling_pending _ fun f => handleSettleAnswer_pending f s
  case settleRequest => exact s.endHandling_pending _ fun f => handleSettleRequest_pending f s
  case restoreCommand => exact s.endHandling_pending _ fun f => handleRestoreCommand_pending f s
  case sectionStatus | class7FrameHandled => exact s.endHandling_pending _ fun _ => rfl

/-- A step on a queue that is not empty takes its front (log 1). -/
theorem step_of_pending {s : State} {c : Instr} {rest : List Instr} (waiting : s.pending = c :: rest) :
    step s = exec c { s with pending := rest } := by
  unfold step
  rw [waiting]

/-- Settles O1: the queue's front is the command that waits. -/
theorem stepRunsFrontCommand : Obligations.StepRunsFrontCommand :=
  fun _ _ _ => step_of_pending rfl

/-- Settles O2: each arm answers a next state, and what it answers is made by operations that keep the queue. -/
theorem everyCommandCompletes : Obligations.EveryCommandCompletes := by
  intro c s
  obtain ⟨t, next⟩ := exec_completes c s
  exact ⟨t, next, exec_pending c next⟩

end Sys2Proof.Machine
